-- ==== Sys2Proof/Word.lean ====
section
/-! DEFINITION. The 32-bit register word and its two readings (00_scope.md R11, 10_state.md R21). -/

namespace Sys2Proof

/-- A register: a 32-bit word (10_state.md R21). -/
abbrev Word := BitVec 32

/-- The integer an unsigned ("U") register holds (R11). -/
def uval (w : Word) : Int := w.toNat

/-- The integer a signed ("S") register holds, two's complement (R11). -/
def sval (w : Word) : Int := w.toInt

/-- The register word that a rule's integer result is written as (R11).
A result outside 32 bits keeps its low 32 bits; no rule gives one in a reachable state (log 8, DESIGN CHOICE). -/
def word (x : Int) : Word := BitVec.ofInt 32 x

end Sys2Proof
end

