-- ==== Sys2Proof/Config.lean ====
section
/-! DEFINITION. What an implementation fixes: the parameters of 00_scope.md R8, the constants of R7, and the one
free value of the spec. -/

namespace Sys2Proof

/-- OperatingMode (10_state.md R33): `OpenLoop` = 0, `CloseLoop` = 1. -/
inductive OpMode where
  | openLoop
  | closeLoop
deriving DecidableEq, Repr

/-- The per-channel linear calibration `CAL_K[c]`, `CAL_B[c]` (R8, 40_sampler.md R131). -/
structure Cal where
  k : Int
  b : Int
deriving DecidableEq, Repr

/-- The configuration record `cfg` of 00_scope.md R8, all integers. A model is a function of it. Which values are
admitted is `Cfg.WellFormed` (R9). -/
structure Cfg where
  calVin  : Cal
  calIin  : Cal
  calVout : Cal
  calIout : Cal
  avgSeed : Int
  pidB0 : Int
  pidB1 : Int
  pidB2 : Int
  minBuckDuty      : Int
  buckMaxDutyInit  : Int
  boostMaxDutyInit : Int
  boostDutyFixed   : Int
  vorefInit     : Int
  iorefInit     : Int
  ilimitInit    : Int
  ilimitOutInit : Int
  vinUvpTh  : Int
  vinOvpTh  : Int
  voutUvpTh : Int
  voutOvpTh : Int
  ioutOcpTh : Int
  shortTh   : Int
  defPeriod : Int
  defHalf   : Int
  defDuty   : Int
  defDead   : Int
  periodMin : Int
  periodMax : Int
  dutyMin   : Int
  dutyMax   : Int
  deadMin   : Int
  deadMax   : Int
  periodStep : Int
  dutyStep   : Int
  deadStep   : Int
  riseStep      : Int
  riseMaxCycles : Int
  /-- `MODE_INIT`: 0 or 1 by type. -/
  modeInit : OpMode
  /-- `OVERRUN_POLICY` (70_reset_and_hazards.md R297, 92_eei_decisions.md D39): open, and no rule reads it (log 13). -/
  overrunPolicy : Nat := 0
deriving DecidableEq, Repr

namespace Config

/-- `NOM`, the nominal period (R7). -/
def nom : Int := 16000
/-- `V_FLOOR` (R7). -/
def vFloor : Int := 100
/-- `I_ZERO` (R7). -/
def iZero : Int := 2048
/-- `K_SHIFT` (R7). -/
def kShift : Nat := 12
/-- `B_SHIFT` (R7). -/
def bShift : Nat := 8
/-- `AVG_SHIFT` (R7). -/
def avgShift : Nat := 2

/-- Free value (20_memory.md R92, 92_eei_decisions.md D37; log 4): whether, at the `n`th instant at which a `TICK`
and a host word arrive together, the `TICK` is executed first. Nothing is known of it, so a claim holds for both. -/
opaque tickFirst : Nat → Bool

end Config

/-- The reference configuration `CFG_T` (00_scope.md R10), which claims nothing about the real converter. -/
def Cfg.cfgT : Cfg where
  calVin  := { k := 4101, b := 49 }
  calIin  := { k := 4096, b := 0 }
  calVout := { k := 4096, b := 0 }
  calIout := { k := 4096, b := 0 }
  avgSeed := 2048
  pidB0 := 700
  pidB1 := -1200
  pidB2 := 520
  minBuckDuty      := 160
  buckMaxDutyInit  := 7200
  boostMaxDutyInit := 7200
  boostDutyFixed   := 160
  vorefInit     := 2000
  iorefInit     := 0
  ilimitInit    := 0
  ilimitOutInit := 0
  vinUvpTh  := 500
  vinOvpTh  := 3800
  voutUvpTh := 0
  voutOvpTh := 3500
  ioutOcpTh := 3500
  shortTh   := 3900
  defPeriod := 16000
  defHalf   := 8000
  defDuty   := 7680
  defDead   := 320
  periodMin := 12308
  periodMax := 22857
  dutyMin   := 800
  dutyMax   := 7200
  deadMin   := 320
  deadMax   := 1600
  periodStep := 160
  dutyStep   := 160
  deadStep   := 16
  riseStep      := 800
  riseMaxCycles := 16
  modeInit := .openLoop

end Sys2Proof
end

