-- ==== Sys2Proof/Syntax.lean ====
section
/-! DEFINITION. The operations of DPCORE: the seventeen rows of spec/opcode_table.json (00_scope.md R3), and the two
kinds of operation word that carry them (30_encoding.md R100). -/

namespace Sys2Proof

/-- The nine host events (10_state.md R41, 30_encoding.md R104). -/
inductive Event where
  | start
  | ack
  | mode
  | freqUp
  | freqDn
  | dutyUp
  | dutyDn
  | deadUp
  | deadDn
deriving DecidableEq, Repr

/-- The bit of an event in `PEND` and `EVT`, which is also its `arg` in a post word (R41, R104). -/
def Event.num : Event → Nat
  | .start => 0
  | .ack => 1
  | .mode => 2
  | .freqUp => 3
  | .freqDn => 4
  | .dutyUp => 5
  | .dutyDn => 6
  | .deadUp => 7
  | .deadDn => 8

/-- One operation: six stage micro-operations (format S), eleven host command words (format H). -/
inductive Instr where
  | latch
  | sample
  | ctrl
  | prot
  | fsm
  | map
  | nop
  | start
  | ack
  | mode
  | freqUp
  | freqDn
  | dutyUp
  | dutyDn
  | deadUp
  | deadDn
  /-- `RD idx`, `idx` an unsigned 8-bit register index (R105). -/
  | rd (idx : Nat)
deriving DecidableEq, Repr

/-- The post of an event (45_host_commands.md R241). -/
def Instr.post : Event → Instr
  | .start => .start
  | .ack => .ack
  | .mode => .mode
  | .freqUp => .freqUp
  | .freqDn => .freqDn
  | .dutyUp => .dutyUp
  | .dutyDn => .dutyDn
  | .deadUp => .deadUp
  | .deadDn => .deadDn

/-- An operation word (30_encoding.md R100): a 3-bit stage code from the sequencer, or a 16-bit host command word. -/
inductive OpWord where
  | stage (code : BitVec 3)
  | host (w : BitVec 16)
deriving DecidableEq, Repr

end Sys2Proof
end

