-- ==== Sys2Proof/WellFormed.lean ====
section
/-! DEFINITION. Which instructions and which configurations are well formed. -/

namespace Sys2Proof

/-- The one operand of the set, the index of `RD`, is an unsigned 8-bit number (45_host_commands.md R251). -/
abbrev Instr.WellFormed (i : Instr) : Prop :=
  match i with
  | .rd idx => idx < 256
  | _ => True

/-- `lo ≤ x ≤ hi`. -/
abbrev InRange (x lo hi : Int) : Prop := lo ≤ x ∧ x ≤ hi

/-- The calibration ranges of 00_scope.md R8. -/
abbrev Cal.WellFormed (c : Cal) : Prop := InRange c.k 0 65535 ∧ InRange c.b (-32768) 32767

namespace Cfg

/-- R8: sampler parameters. -/
abbrev SamplerOk (c : Cfg) : Prop :=
  c.calVin.WellFormed ∧ c.calIin.WellFormed ∧ c.calVout.WellFormed ∧ c.calIout.WellFormed ∧ InRange c.avgSeed 0 65535

/-- R8: compensator parameters, and R9 (b) `MIN_BUCK_DUTY ≤ BUCK_MAX_DUTY_INIT`. -/
abbrev ControlOk (c : Cfg) : Prop :=
  InRange c.pidB0 (-32768) 32767 ∧ InRange c.pidB1 (-32768) 32767 ∧ InRange c.pidB2 (-32768) 32767 ∧
  InRange c.minBuckDuty 1 65535 ∧ InRange c.buckMaxDutyInit c.minBuckDuty 65535 ∧
  InRange c.boostMaxDutyInit 0 65535 ∧ InRange c.boostDutyFixed 0 65535 ∧
  InRange c.vorefInit 0 65535 ∧ InRange c.iorefInit 0 65535 ∧ InRange c.ilimitInit 0 65535 ∧
  InRange c.ilimitOutInit 0 65535

/-- R8: protection thresholds. -/
abbrev ThresholdsOk (c : Cfg) : Prop :=
  InRange c.vinUvpTh 0 2147483647 ∧ InRange c.vinOvpTh 0 2147483647 ∧ InRange c.voutUvpTh 0 2147483647 ∧
  InRange c.voutOvpTh 0 2147483647 ∧ InRange c.ioutOcpTh 0 2147483647 ∧ InRange c.shortTh 0 2147483647

/-- R8: default geometry, step clamps with R9 (c) `*_MIN ≤ *_MAX`, and step sizes. -/
abbrev GeometryOk (c : Cfg) : Prop :=
  InRange c.defPeriod 1 65535 ∧ InRange c.defHalf 1 65535 ∧ InRange c.defDuty 1 65535 ∧ InRange c.defDead 0 65535 ∧
  InRange c.periodMin 1 65535 ∧ InRange c.periodMax c.periodMin 65535 ∧
  InRange c.dutyMin 1 65535 ∧ InRange c.dutyMax c.dutyMin 65535 ∧
  InRange c.deadMin 0 65535 ∧ InRange c.deadMax c.deadMin 65535 ∧
  InRange c.periodStep 1 65535 ∧ InRange c.dutyStep 1 65535 ∧ InRange c.deadStep 1 65535

/-- R8: soft-start parameters. -/
abbrev RampOk (c : Cfg) : Prop := InRange c.riseStep 1 65535 ∧ InRange c.riseMaxCycles 1 65535

/-- The check of 00_scope.md R9. -/
def wellFormed (c : Cfg) : Bool :=
  decide c.SamplerOk && decide c.ControlOk && decide c.ThresholdsOk && decide c.GeometryOk && decide c.RampOk

/-- A configuration that meets 00_scope.md R9. A model gives no machine for any other (93_implementation_defined.md
U16): `Machine.step` refuses. -/
abbrev WellFormed (c : Cfg) : Prop := c.wellFormed = true

end Cfg

end Sys2Proof
end

