-- ==== Sys2Proof/Decode.lean ====
section
/-! DEFINITION. Decoding an operation word (30_encoding.md R101, R103 to R108), total and rejecting by name, then the
encoder and the opcode table. -/

namespace Sys2Proof

/-- Why a word is no operation (R108, 93_implementation_defined.md U1, U3). -/
inductive Reject where
  /-- Stage code `000`: the sequencer is idle. -/
  | idleStage
  /-- Stage code `111`. -/
  | reservedStage
  /-- `cls ≥ 3`. -/
  | reservedClass
  /-- `z ≠ 0`. -/
  | reservedZ
  /-- Class 0 with `arg ≠ 0`. -/
  | reservedNopArg
  /-- Class 1 with `arg ≥ 9`. -/
  | reservedEvent
deriving DecidableEq, Repr

/-- `w[hi:lo]` as an unsigned number (00_scope.md R16). -/
def bitField (w : BitVec 16) (hi lo : Nat) : Nat := w.toNat / 2 ^ lo % 2 ^ (hi + 1 - lo)

/-- Format S (R101): the code order is the execution order. -/
def decodeStage (code : BitVec 3) : Except Reject Instr :=
  match code.toNat with
  | 0 => .error .idleStage
  | 1 => .ok .latch
  | 2 => .ok .sample
  | 3 => .ok .ctrl
  | 4 => .ok .prot
  | 5 => .ok .fsm
  | 6 => .ok .map
  | _ => .error .reservedStage

/-- The event that `arg` of a class 1 word names (R104). -/
def decodeEvent (arg : Nat) : Except Reject Event :=
  match arg with
  | 0 => .ok .start
  | 1 => .ok .ack
  | 2 => .ok .mode
  | 3 => .ok .freqUp
  | 4 => .ok .freqDn
  | 5 => .ok .dutyUp
  | 6 => .ok .dutyDn
  | 7 => .ok .deadUp
  | 8 => .ok .deadDn
  | _ => .error .reservedEvent

/-- Format H with its three fields taken apart (R103, R107). -/
def decodeFields (cls z arg : Nat) : Except Reject Instr :=
  if 3 ≤ cls then .error .reservedClass
  else if z ≠ 0 then .error .reservedZ
  else
    match cls with
    | 0 => if arg = 0 then .ok .nop else .error .reservedNopArg
    | 1 => (decodeEvent arg).map Instr.post
    | _ => .ok (.rd arg)

/-- Format H: `cls` = bits 15:12, `z` = bits 11:8, `arg` = bits 7:0 (R103). -/
def decodeHost (w : BitVec 16) : Except Reject Instr :=
  decodeFields (bitField w 15 12) (bitField w 11 8) (bitField w 7 0)

/-- Decoding of any operation word. -/
def decode (o : OpWord) : Except Reject Instr :=
  match o with
  | .stage code => decodeStage code
  | .host w => decodeHost w

/-- The post word `0x1000 + ev` (R104). -/
def postWord (e : Event) : BitVec 16 := 0x1000#16 + BitVec.ofNat 16 e.num

/-- The operation word of an instruction (R101, R103 to R105). -/
def encode (i : Instr) : OpWord :=
  match i with
  | .latch => .stage 0b001#3
  | .sample => .stage 0b010#3
  | .ctrl => .stage 0b011#3
  | .prot => .stage 0b100#3
  | .fsm => .stage 0b101#3
  | .map => .stage 0b110#3
  | .nop => .host 0x0000#16
  | .start => .host (postWord .start)
  | .ack => .host (postWord .ack)
  | .mode => .host (postWord .mode)
  | .freqUp => .host (postWord .freqUp)
  | .freqDn => .host (postWord .freqDn)
  | .dutyUp => .host (postWord .dutyUp)
  | .dutyDn => .host (postWord .dutyDn)
  | .deadUp => .host (postWord .deadUp)
  | .deadDn => .host (postWord .deadDn)
  | .rd idx => .host (0x2000#16 + BitVec.ofNat 16 idx)

/-- The two formats of an operation word (R100). -/
inductive Format where
  | s
  | h
deriving DecidableEq, Repr

/-- One row of spec/opcode_table.json: a word of this format is this operation when `word &&& mask = value`. -/
structure OpRow where
  mnemonic : String
  format : Format
  mask : Nat
  value : Nat
deriving DecidableEq, Repr

/-- A row whose every bit is fixed. -/
def OpRow.fixed (mnemonic : String) (format : Format) (value : Nat) : OpRow :=
  { mnemonic, format, mask := match format with | .s => 0x7 | .h => 0xFFFF, value }

/-- The row of spec/opcode_table.json that an instruction belongs to. -/
def Instr.row (i : Instr) : OpRow :=
  match i with
  | .latch => .fixed "LATCH" .s 1
  | .sample => .fixed "SAMPLE" .s 2
  | .ctrl => .fixed "CTRL" .s 3
  | .prot => .fixed "PROT" .s 4
  | .fsm => .fixed "FSM" .s 5
  | .map => .fixed "MAP" .s 6
  | .nop => .fixed "NOP" .h 0
  | .start => .fixed "START" .h 4096
  | .ack => .fixed "ACK" .h 4097
  | .mode => .fixed "MODE" .h 4098
  | .freqUp => .fixed "FREQ_UP" .h 4099
  | .freqDn => .fixed "FREQ_DN" .h 4100
  | .dutyUp => .fixed "DUTY_UP" .h 4101
  | .dutyDn => .fixed "DUTY_DN" .h 4102
  | .deadUp => .fixed "DEAD_UP" .h 4103
  | .deadDn => .fixed "DEAD_DN" .h 4104
  | .rd _ => { mnemonic := "RD", format := .h, mask := 0xFF00, value := 8192 }

/-- The format of a word. -/
def OpWord.format : OpWord → Format
  | .stage _ => .s
  | .host _ => .h

/-- The bits of a word as a number, bit 0 the least significant. -/
def OpWord.bits : OpWord → Nat
  | .stage code => code.toNat
  | .host w => w.toNat

/-- A word has the fixed bits of a row. -/
abbrev OpRow.Matches (r : OpRow) (o : OpWord) : Prop := o.format = r.format ∧ o.bits &&& r.mask = r.value

/-- The operation word whose bits, numbered as spec/opcode_table.json numbers them, are `w`, where the table gives
the row `nbits` bits in whole bytes (log 11): up to 8 bits a stage code, whose bits above bit 2 are 0 (a byte that
has one set is no stage code and is laid out as the reserved code), else a host command word. -/
def tableWord (nbits w : Nat) : OpWord :=
  if nbits ≤ 8 then .stage (if w < 8 then BitVec.ofNat 3 w else 0b111#3)
  else .host (BitVec.ofNat 16 w)

/-- The instruction the decoder reads from a table word (interface of the host). -/
def decodeTableWord (nbits w : Nat) : Option Instr :=
  match decode (tableWord nbits w) with
  | .ok i => some i
  | .error _ => none

end Sys2Proof
end

