-- ==== Sys2Proof/Machine/State.lean ====
section
/-! DEFINITION. The state of DPCORE as plain data: every register of 10_state.md R48 and R32 to R45, the ports that
hold a value, the configuration and the inputs still to come; its value after reset (R49); and the reasons a step can
stop. -/

namespace Sys2Proof.Machine

/-- DPCORE has no fault that stops it (60_exceptions.md R260: a geometry rejection, a trip, a clamp and a command
error are all states the machine goes on from), so no step ends in one. -/
inductive Fault where
deriving DecidableEq, Repr

/-- Why a step has no next state. -/
inductive Refusal where
  /-- Raised by an arm of `exec` that has no meaning. No arm is in that case. Safe. -/
  | notModelled (mnemonic : String)
  /-- Raised by `step` when `STG` holds the reserved code 111, which the sequencer never produces
  (93_implementation_defined.md U3: refuse). Safe. -/
  | reservedStage
  /-- Raised by `step` when `cfg` breaks 00_scope.md R9 (93_implementation_defined.md U16: refuse). Safe. -/
  | invalidConfig
deriving DecidableEq, Repr

/-- ConverterState (10_state.md R32). -/
inductive ConvState where
  | init
  | wait
  | rise
  | run
  | err
deriving DecidableEq, Repr

/-- The registers of one sampled channel `c`: `RAW_c`, `c`, `c_SUM`, `c_AVG` (R22 to R25). -/
structure Channel where
  raw : Word
  val : Word
  sum : Word
  avg : Word
deriving DecidableEq, Repr

/-- ControlState: `ERR1`, `ERR2`, `U1`, `BUCK_DUTY` (R27, R28). -/
structure Control where
  err1 : Word
  err2 : Word
  u1 : Word
  buckDuty : Word
deriving DecidableEq, Repr

/-- The rest of ControlParameters, loaded by `InitLoad` and written by nothing else (R29). -/
structure Params where
  boostDuty : Word
  voref : Word
  ioref : Word
  ilimit : Word
  buckMaxDuty : Word
  boostMaxDuty : Word
  ilimitOut : Word
deriving DecidableEq, Repr

/-- `GEO_PERIOD`, `GEO_HALF`, `GEO_DUTY`, `GEO_DEAD` (R30). -/
structure Geometry where
  period : Word
  half : Word
  duty : Word
  dead : Word
deriving DecidableEq, Repr

/-- `OUT_PERIOD`, `OUT_MCMP1`, `OUT_A_RST`, `OUT_A_DUTY`, `OUT_B_RST`, `OUT_B_DUTY`, `OUT_ADC_TRIG` (R31). -/
structure Descriptor where
  period : Word
  mcmp1 : Word
  aRst : Word
  aDuty : Word
  bRst : Word
  bDuty : Word
  adcTrig : Word
deriving DecidableEq, Repr

/-- The four 12-bit codes on `adc_vin`, `adc_iin`, `adc_vout`, `adc_iout` (30_encoding.md R113). -/
structure AdcCodes where
  vin : BitVec 12
  iin : BitVec 12
  vout : BitVec 12
  iout : BitVec 12
deriving DecidableEq, Repr

/-- What arrives at one instant on the three inputs `rst`, `tick` with its codes, `cmd_valid` with its word
(R113, 60_exceptions.md R268). -/
structure Arrival where
  rst : Bool := false
  tick : Option AdcCodes := none
  cmd : Option (BitVec 16) := none
deriving DecidableEq, Repr

/-- The state of DPCORE. -/
@[ext]
structure State where
  /-- The parameters, fixed for a machine and written by no step (R47; log 1). -/
  cfg : Cfg
  vin : Channel
  iin : Channel
  vout : Channel
  iout : Channel
  /-- `VADJ` (R26). -/
  vadj : Word
  /-- `VADJ_AVG` (R26). -/
  vadjAvg : Word
  ctl : Control
  params : Params
  geo : Geometry
  out : Descriptor
  /-- `STATE` (R32). -/
  state : ConvState
  /-- `MODE` (R33). -/
  mode : OpMode
  /-- `OUT_EN` (R34). -/
  outEn : Bool
  /-- `FAULT` (R35). -/
  fault : BitVec 6
  /-- `FLAGS_NOW` (R36). -/
  flagsNow : BitVec 6
  /-- `MAP_ERR` (R38). -/
  mapErr : Bool
  /-- `CMDERR` (R39). -/
  cmdErr : Bool
  /-- `U_SAT` (R40). -/
  uSat : Bool
  /-- `PEND` (R41). -/
  pend : BitVec 9
  /-- `EVT` (R42). -/
  evt : BitVec 9
  /-- `RAMP` (R43). -/
  ramp : Word
  /-- `RISE_CNT` (R43). -/
  riseCnt : Word
  /-- `DUTY_ACT` (R44). -/
  dutyAct : Word
  /-- `STG` (R45). -/
  stg : BitVec 3
  /-- The port `rdata`: the value the last `RD` returned (30_encoding.md R113). -/
  rdata : Word
  /-- The codes on the ADC ports since the last `tick` strobe (R113; log 6). -/
  adc : AdcCodes
  /-- Whether the tick in progress started with `STATE = Init` (40_sampler.md R136, 42_pwm_mapper.md R178; log 7). -/
  tickInit : Bool
  /-- The arrivals still to come, in order: the inputs of the step (R47; log 2). -/
  inbox : List Arrival
  /-- How many simultaneous arrivals have been ordered so far: the argument of `Config.tickFirst` (log 4). -/
  choices : Nat
deriving DecidableEq, Repr

/-- A channel after reset: `RAW_c` 0, the instantaneous value `v`, the average at the seed, the sum at four times it
(R49, 70_reset_and_hazards.md R291). -/
def Channel.reset (c : Cfg) (v : Int) : Channel :=
  { raw := 0, val := word v, sum := word (c.avgSeed * 4), avg := word c.avgSeed }

/-- The control history after reset (R49). -/
def Control.reset (c : Cfg) : Control := { err1 := 0, err2 := 0, u1 := 0, buckDuty := word c.minBuckDuty }

/-- The control parameters after reset (R49). -/
def Params.reset (c : Cfg) : Params where
  boostDuty := word c.boostDutyFixed
  voref := word c.vorefInit
  ioref := word c.iorefInit
  ilimit := word c.ilimitInit
  buckMaxDuty := word c.buckMaxDutyInit
  boostMaxDuty := word c.boostMaxDutyInit
  ilimitOut := word c.ilimitOutInit

/-- The default geometry tuple (R49, 44_state_machine.md R210). -/
def Geometry.default (c : Cfg) : Geometry :=
  { period := word c.defPeriod, half := word c.defHalf, duty := word c.defDuty, dead := word c.defDead }

/-- The descriptor after reset, all zero (R49). -/
def Descriptor.zero : Descriptor :=
  { period := 0, mcmp1 := 0, aRst := 0, aDuty := 0, bRst := 0, bDuty := 0, adcTrig := 0 }

/-- The state after `RESET` of a machine with configuration `c` (R49). The fields after `stg` are not registers of
R49: logs 2, 4, 5, 6 and 7. -/
def State.resetWith (c : Cfg) : State where
  cfg := c
  vin := Channel.reset c 0
  iin := Channel.reset c Config.iZero
  vout := Channel.reset c 0
  iout := Channel.reset c Config.iZero
  vadj := 0
  vadjAvg := 0
  ctl := Control.reset c
  params := Params.reset c
  geo := Geometry.default c
  out := Descriptor.zero
  state := .init
  mode := c.modeInit
  outEn := false
  fault := 0
  flagsNow := 0
  mapErr := false
  cmdErr := false
  uSat := false
  pend := 0
  evt := 0
  ramp := word c.minBuckDuty
  riseCnt := 0
  dutyAct := word c.minBuckDuty
  stg := 0
  rdata := 0
  adc := { vin := 0, iin := 0, vout := 0, iout := 0 }
  tickInit := false
  inbox := []
  choices := 0

/-- The machine right after reset, with the reference configuration `CFG_T` (R49, 00_scope.md R10; log 1). -/
def State.reset : State := State.resetWith Cfg.cfgT

end Sys2Proof.Machine
end

