-- ==== Sys2Proof/Machine/Ops.lean ====
section
/-! DEFINITION. The arithmetic helpers of 00_scope.md R12 to R15, the procedures that several rules share (`CtlReset`,
`GeoDefault`, `InitLoad`), the trip and the return from it, and the three kinds of input. -/

namespace Sys2Proof.Machine

/-! ### Arithmetic (00_scope.md R12, R13, R15) -/

/-- `x >> n`, the arithmetic right shift: `floor(x / 2^n)` (R12). -/
def asr (x : Int) (n : Nat) : Int := x / 2 ^ n

/-- `clamp(x, lo, hi)`, the upper bound tested first (R15). -/
def clamp (x lo hi : Int) : Int := if x > hi then hi else if x < lo then lo else x

/-- `sat32(x)` (R15). -/
def sat32 (x : Int) : Int := clamp x (-2147483648) 2147483647

/-- `min(a, b)` (R15). -/
def minInt (a b : Int) : Int := if a < b then a else b

/-- `scaled(x, p) = floor(x * p / 16000)` (R13, R15, 42_pwm_mapper.md R172). -/
def scaled (x p : Int) : Int := x * p / Config.nom

/-! ### Shared procedures -/

/-- `CtlReset` (41_control_law.md R159). -/
def ctlReset (s : State) : State := { s with ctl := Control.reset s.cfg, uSat := false }

/-- `GeoDefault` (44_state_machine.md R210). -/
def geoDefault (s : State) : State := { s with geo := Geometry.default s.cfg }

/-- The seed of one channel: everything of it but `RAW_c` (70_reset_and_hazards.md R291). -/
def seedChannel (c : Cfg) (v : Int) (ch : Channel) : Channel := { Channel.reset c v with raw := ch.raw }

/-- `InitLoad` (70_reset_and_hazards.md R291). It does not write `RAW_*`, `PEND`, `EVT`, `OUT_*`, `MAP_ERR`, `CMDERR`,
`STATE` or `STG`. -/
def initLoad (s : State) : State :=
  { geoDefault (ctlReset s) with
    vin := seedChannel s.cfg 0 s.vin
    iin := seedChannel s.cfg Config.iZero s.iin
    vout := seedChannel s.cfg 0 s.vout
    iout := seedChannel s.cfg Config.iZero s.iout
    params := Params.reset s.cfg
    fault := 0
    flagsNow := 0
    mode := s.cfg.modeInit
    outEn := false
    ramp := word s.cfg.minBuckDuty
    riseCnt := 0
    dutyAct := word s.cfg.minBuckDuty }

/-! ### Taking the exception of this hardware, the trip, and returning from it -/

/-- `EnterErr`, the trip (44_state_machine.md R208, 60_exceptions.md R263): `FAULT` already holds the cause, nothing
is saved for a return and there is no vector. `DUTY_ACT` follows in step 6 of the same `FSM`. -/
def enterErr (s : State) : State :=
  { s with state := .err, outEn := false, ctl := { s.ctl with buckDuty := word s.cfg.minBuckDuty } }

/-- The return from `Err` on `ACK` (44_state_machine.md R207, 60_exceptions.md R264). -/
def leaveErr (s : State) : State := { s with fault := 0, state := .wait }

/-! ### Inputs (30_encoding.md R113, 60_exceptions.md R268) -/

/-- The `rst` strobe: every register takes its reset value (45_host_commands.md R253, 70_reset_and_hazards.md R290).
The parameters, the inputs still to come, the input pins and the value returned by the last `RD` are no registers
(log 5, log 6). -/
def resetEvent (s : State) : State :=
  { State.resetWith s.cfg with rdata := s.rdata, adc := s.adc, inbox := s.inbox, choices := s.choices }

/-- The `tick` strobe with its four codes: `STG <- 001` (45_host_commands.md R252, 30_encoding.md R102). -/
def tickEvent (codes : AdcCodes) (s : State) : State :=
  { s with stg := 1, adc := codes, tickInit := decide (s.state = .init) }

/-- A reserved host word: `CMDERR <- 1`, nothing else, no data returned (45_host_commands.md R254). -/
def reservedWord (s : State) : State := { s with cmdErr := true }

/-- The transaction that the next arrival starts. -/
inductive Input where
  | none
  | reset
  | tick (codes : AdcCodes)
  | word (w : BitVec 16)
deriving DecidableEq, Repr

/-- Take the next transaction from the arrivals. `RESET` overrides what coincides with it; of a `TICK` and a host word
that arrive together one is taken and the other stays for the next step, in an order nothing fixes (20_memory.md R92;
log 4). -/
def takeInput (s : State) : Input × State :=
  match s.inbox with
  | [] => (.none, s)
  | a :: rest =>
    if a.rst then (.reset, { s with inbox := rest })
    else
      match a.tick, a.cmd with
      | none, none => (.none, { s with inbox := rest })
      | some codes, none => (.tick codes, { s with inbox := rest })
      | none, some w => (.word w, { s with inbox := rest })
      | some codes, some w =>
        if Config.tickFirst s.choices then
          (.tick codes, { s with inbox := { cmd := some w } :: rest, choices := s.choices + 1 })
        else
          (.word w, { s with inbox := { tick := some codes } :: rest, choices := s.choices + 1 })

/-- What one step does: run an operation from a state, go to a state, or refuse. -/
inductive Action where
  | run (i : Instr) (s : State)
  | goto (s : State)
  | refuse (r : Refusal)
deriving DecidableEq, Repr

/-- The transaction an input starts when the sequencer is idle (20_memory.md R86). -/
def startInput (inp : Input) (s : State) : Action :=
  match inp with
  | .none => .goto s
  | .reset => .goto (resetEvent s)
  | .tick codes => .goto (tickEvent codes s)
  | .word w =>
    match decodeHost w with
    | .ok i => .run i s
    | .error _ => .goto (reservedWord s)

/-- Where the next operation comes from: the sequencer while `STG` is not `IDLE`, so that nothing lands inside a tick
(20_memory.md R86, 30_encoding.md R102; log 3), else the next arrival. A machine whose configuration breaks
00_scope.md R9 has no step (log 9). -/
def fetch (s : State) : Action :=
  if s.cfg.wellFormed then
    match decodeStage s.stg with
    | .ok i => .run i s
    | .error .idleStage => startInput (takeInput s).1 (takeInput s).2
    | .error _ => .refuse .reservedStage
  else .refuse .invalidConfig

/-- Put a word where `fetch` takes its next operation: a stage code in `STG`, in a tick that starts in the present
`STATE`; a host word at the head of the arrivals, with the sequencer idle (log 12). -/
def placeWord (o : OpWord) (s : State) : State :=
  match o with
  | .stage code => { s with stg := code, tickInit := decide (s.state = .init) }
  | .host w => { s with stg := 0, tickInit := false, inbox := { cmd := some w } :: s.inbox }

end Sys2Proof.Machine
end

