-- ==== Sys2Proof/Machine/Flags.lean ====
section
/-! DEFINITION. Bit sets and assembled words: event bits (10_state.md R41), fault bits (R35), the codes of the enums
(R32, R33) and the word `STATUS` (R37). -/

namespace Sys2Proof.Machine

/-- The bit of an event in a mailbox. -/
def eventBit (e : Event) : BitVec 9 := 1#9 <<< e.num

/-- `ev(X)`: the bit of event `X` in `EVT` (44_state_machine.md R201). -/
def hasEvent (s : State) (e : Event) : Bool := s.evt.getLsbD e.num

/-- One flag at its bit position. -/
def flagBit (f : Bool) (i : Nat) : BitVec 6 := if f then 1#6 <<< i else 0#6

/-- Six flags OR-combined into one mask (43_protection.md R193), bit `i` = `f i`. -/
def flagSet (f0 f1 f2 f3 f4 f5 : Bool) : BitVec 6 :=
  flagBit f0 0 ||| flagBit f1 1 ||| flagBit f2 2 ||| flagBit f3 3 ||| flagBit f4 4 ||| flagBit f5 5

/-- The code of `STATE` (R32). -/
def stateCode : ConvState → BitVec 3
  | .init => 0
  | .wait => 1
  | .rise => 2
  | .run => 3
  | .err => 4

/-- The code of `MODE` (R33). -/
def modeCode : OpMode → BitVec 1
  | .openLoop => 0
  | .closeLoop => 1

/-- `1 - MODE`. -/
def otherMode : OpMode → OpMode
  | .openLoop => .closeLoop
  | .closeLoop => .openLoop

/-- A field of `n` bits at bit position `i` of a word. -/
def fieldAt {n : Nat} (v : BitVec n) (i : Nat) : Word := v.zeroExtend 32 <<< i

/-- `STATUS` (R37; log 17). -/
def statusWord (s : State) : Word :=
  fieldAt (stateCode s.state) 0 ||| fieldAt (modeCode s.mode) 3 ||| fieldAt (BitVec.ofBool s.outEn) 4 |||
  fieldAt (BitVec.ofBool s.mapErr) 5 ||| fieldAt (BitVec.ofBool s.cmdErr) 6 ||| fieldAt (BitVec.ofBool s.uSat) 7 |||
  fieldAt s.stg 8

end Sys2Proof.Machine
end

