-- ==== Sys2Proof/Machine/Operands.lean ====
section
/-! DEFINITION. The register space (10_state.md R48, 20_memory.md R80 to R85): the one kind of operand DPCORE has, and
the output ports (30_encoding.md R113). -/

namespace Sys2Proof.Machine

/-- The registers that have an index, in the order of the table of R48. -/
inductive Reg where
  | rawVin | rawIin | rawVout | rawIout
  | vin | iin | vout | iout | vadj
  | vinAvg | iinAvg | voutAvg | ioutAvg | vadjAvg
  | vinSum | iinSum | voutSum | ioutSum
  | err1 | err2 | u1 | buckDuty | boostDuty | voref | ioref | ilimit | buckMaxDuty | boostMaxDuty | ilimitOut
  | status | fault | flagsNow | pend | evt | ramp | riseCnt | dutyAct
  | geoPeriod | geoHalf | geoDuty | geoDead
  | outPeriod | outMcmp1 | outARst | outADuty | outBRst | outBDuty | outAdcTrig
deriving DecidableEq, Repr

/-- R48, indices `0x00 .. 0x11`. -/
def samplerMap : List (Nat × Reg) :=
  [(0x00, .rawVin), (0x01, .rawIin), (0x02, .rawVout), (0x03, .rawIout),
   (0x04, .vin), (0x05, .iin), (0x06, .vout), (0x07, .iout), (0x08, .vadj),
   (0x09, .vinAvg), (0x0A, .iinAvg), (0x0B, .voutAvg), (0x0C, .ioutAvg), (0x0D, .vadjAvg),
   (0x0E, .vinSum), (0x0F, .iinSum), (0x10, .voutSum), (0x11, .ioutSum)]

/-- R48, indices `0x20 .. 0x2A`. -/
def controlMap : List (Nat × Reg) :=
  [(0x20, .err1), (0x21, .err2), (0x22, .u1), (0x23, .buckDuty), (0x24, .boostDuty), (0x25, .voref), (0x26, .ioref),
   (0x27, .ilimit), (0x28, .buckMaxDuty), (0x29, .boostMaxDuty), (0x2A, .ilimitOut)]

/-- R48, indices `0x30 .. 0x37`. -/
def systemMap : List (Nat × Reg) :=
  [(0x30, .status), (0x31, .fault), (0x32, .flagsNow), (0x33, .pend), (0x34, .evt), (0x35, .ramp), (0x36, .riseCnt),
   (0x37, .dutyAct)]

/-- R48, indices `0x40 .. 0x43` and `0x48 .. 0x4E`. -/
def geometryMap : List (Nat × Reg) :=
  [(0x40, .geoPeriod), (0x41, .geoHalf), (0x42, .geoDuty), (0x43, .geoDead),
   (0x48, .outPeriod), (0x49, .outMcmp1), (0x4A, .outARst), (0x4B, .outADuty), (0x4C, .outBRst), (0x4D, .outBDuty),
   (0x4E, .outAdcTrig)]

/-- The register map (R48). An index it does not list is unimplemented (20_memory.md R85). -/
def registerMap : List (Nat × Reg) := samplerMap ++ controlMap ++ systemMap ++ geometryMap

/-- The register at an index, if one is implemented there. -/
def regAt (idx : Nat) : Option Reg := registerMap.lookup idx

/-- The 32 bits a read of a register gives (20_memory.md R84); a field narrower than 32 bits is zero-extended (R21). -/
def Reg.read (r : Reg) (s : State) : Word :=
  match r with
  | .rawVin => s.vin.raw
  | .rawIin => s.iin.raw
  | .rawVout => s.vout.raw
  | .rawIout => s.iout.raw
  | .vin => s.vin.val
  | .iin => s.iin.val
  | .vout => s.vout.val
  | .iout => s.iout.val
  | .vadj => s.vadj
  | .vinAvg => s.vin.avg
  | .iinAvg => s.iin.avg
  | .voutAvg => s.vout.avg
  | .ioutAvg => s.iout.avg
  | .vadjAvg => s.vadjAvg
  | .vinSum => s.vin.sum
  | .iinSum => s.iin.sum
  | .voutSum => s.vout.sum
  | .ioutSum => s.iout.sum
  | .err1 => s.ctl.err1
  | .err2 => s.ctl.err2
  | .u1 => s.ctl.u1
  | .buckDuty => s.ctl.buckDuty
  | .boostDuty => s.params.boostDuty
  | .voref => s.params.voref
  | .ioref => s.params.ioref
  | .ilimit => s.params.ilimit
  | .buckMaxDuty => s.params.buckMaxDuty
  | .boostMaxDuty => s.params.boostMaxDuty
  | .ilimitOut => s.params.ilimitOut
  | .status => statusWord s
  | .fault => s.fault.zeroExtend 32
  | .flagsNow => s.flagsNow.zeroExtend 32
  | .pend => s.pend.zeroExtend 32
  | .evt => s.evt.zeroExtend 32
  | .ramp => s.ramp
  | .riseCnt => s.riseCnt
  | .dutyAct => s.dutyAct
  | .geoPeriod => s.geo.period
  | .geoHalf => s.geo.half
  | .geoDuty => s.geo.duty
  | .geoDead => s.geo.dead
  | .outPeriod => s.out.period
  | .outMcmp1 => s.out.mcmp1
  | .outARst => s.out.aRst
  | .outADuty => s.out.aDuty
  | .outBRst => s.out.bRst
  | .outBDuty => s.out.bDuty
  | .outAdcTrig => s.out.adcTrig

/-- What the output ports show: the ports of 30_encoding.md R113, and `STATUS` whole, which the status outputs show
(20_memory.md R81; log 18). -/
structure Ports where
  rdata : Word
  pwm : Descriptor
  pwmEn : BitVec 1
  state : BitVec 3
  mode : BitVec 1
  fault : BitVec 6
  status : Word
  boostDuty : Word
deriving DecidableEq, Repr

/-- The output ports as they stand between transactions; inside a tick nothing outside sees them (20_memory.md R91;
log 14). -/
def State.ports (s : State) : Option Ports :=
  if s.stg = 0 then
    some { rdata := s.rdata, pwm := s.out, pwmEn := BitVec.ofBool s.outEn, state := stateCode s.state,
           mode := modeCode s.mode, fault := s.fault, status := statusWord s,
           boostDuty := s.params.boostDuty }
  else none

end Sys2Proof.Machine
end

