-- ==== Sys2Proof/Machine/ControlLaw.lean ====
section
/-! DEFINITION. `CTRL`, the fixed-point compensator (41_control_law.md). -/

namespace Sys2Proof.Machine

/-- `e0 = VOREF - VOUT` (R151). -/
def ctrlError (s : State) : Int := uval s.params.voref - sval s.vout.val

/-- `ux`, the exact sum (R152). -/
def ctrlSum (s : State) : Int :=
  sval s.ctl.u1 + ctrlError s * s.cfg.pidB0 + sval s.ctl.err1 * s.cfg.pidB1 + sval s.ctl.err2 * s.cfg.pidB2

/-- `u0 = sat32(ux)` (R152). -/
def ctrlOut (s : State) : Int := sat32 (ctrlSum s)

/-- `BUCK_DUTY`: `u0 >> 8`, clamped, and forced to `MIN_BUCK_DUTY` while the output is disabled (R153 to R155). -/
def ctrlDuty (s : State) : Int :=
  if s.outEn then clamp (asr (ctrlOut s) Config.bShift) s.cfg.minBuckDuty (uval s.params.buckMaxDuty)
  else s.cfg.minBuckDuty

/-- The compensator with its history shift (R151 to R156). -/
def runLaw (s : State) : State :=
  { s with
    ctl := { err1 := word (ctrlError s), err2 := s.ctl.err1, u1 := word (ctrlOut s), buckDuty := word (ctrlDuty s) }
    uSat := s.uSat || decide (ctrlOut s ≠ ctrlSum s) }

/-- The effect of `CTRL`, nothing but `STG <- 100` in a tick that started in `Init` (R157). -/
def ctrlStage (s : State) : State := { (if s.tickInit then s else runLaw s) with stg := 4 }

/-- `CTRL` (R150). -/
def execCtrl (s : State) : Host.Outcome State Fault Refusal := .next (ctrlStage s)

end Sys2Proof.Machine
end

