-- ==== Sys2Proof/Machine/Fsm.lean ====
section
/-! DEFINITION. `FSM`, the operating-mode state machine (44_state_machine.md), step by step as R201 writes it. -/

namespace Sys2Proof.Machine

/-- Step 1, the fault latch (R202). -/
def latchFault (s : State) : State := { s with fault := s.fault ||| s.flagsNow }

/-- The states a trip is taken from and the mode may be toggled in (R201, R209). -/
def isActive (c : ConvState) : Bool :=
  match c with
  | .wait | .rise | .run => true
  | .init | .err => false

/-- Whether this tick trips, given the state after the fault latch (R201 step 2). -/
def trips (s : State) : Bool := isActive s.state && decide (s.fault ≠ 0)

/-- `Wait → Rise` (R204). -/
def enterRise (s : State) : State :=
  { s with state := .rise, outEn := true, ramp := word s.cfg.minBuckDuty, riseCnt := 0 }

/-- Step 2, the transitions out of `Wait`, `Rise`, `Run` and `Err` (R204 to R207). -/
def transition (s : State) : State :=
  if trips s then enterErr s
  else
    match s.state with
    | .wait => if hasEvent s .start then enterRise s else s
    | .err => if hasEvent s .ack then leaveErr s else s
    | .init | .rise | .run => s

/-- The mode toggle (R209): `MODE <- 1 - MODE`, `GeoDefault`, and `CtlReset` into `CloseLoop`. -/
def toggleMode (s : State) : State :=
  if otherMode s.mode = .closeLoop then ctlReset (geoDefault { s with mode := otherMode s.mode })
  else geoDefault { s with mode := otherMode s.mode }

/-- `GEO_PERIOD <- clamp(GEO_PERIOD + delta, PERIOD_MIN, PERIOD_MAX)` (R212, R213). -/
def stepPeriod (delta : Int) (s : State) : State :=
  { s with geo := { s.geo with period := word (clamp (uval s.geo.period + delta) s.cfg.periodMin s.cfg.periodMax) } }

/-- `GEO_DUTY <- clamp(GEO_DUTY + delta, DUTY_MIN, DUTY_MAX)` (R214, R215). -/
def stepDuty (delta : Int) (s : State) : State :=
  { s with geo := { s.geo with duty := word (clamp (uval s.geo.duty + delta) s.cfg.dutyMin s.cfg.dutyMax) } }

/-- `GEO_DEAD <- clamp(GEO_DEAD + delta, DEAD_MIN, DEAD_MAX)` (R216, R217). -/
def stepDead (delta : Int) (s : State) : State :=
  { s with geo := { s.geo with dead := word (clamp (uval s.geo.dead + delta) s.cfg.deadMin s.cfg.deadMax) } }

/-- One step event: applied if its bit is in `EVT`. -/
def onEvent (e : Event) (f : State → State) (s : State) : State := if hasEvent s e then f s else s

/-- The six step events in their fixed order, each on the result of the one before (R211). -/
def applySteps (s : State) : State :=
  onEvent .deadDn (stepDead (-s.cfg.deadStep)) <| onEvent .deadUp (stepDead s.cfg.deadStep) <|
  onEvent .dutyDn (stepDuty (-s.cfg.dutyStep)) <| onEvent .dutyUp (stepDuty s.cfg.dutyStep) <|
  onEvent .freqDn (stepPeriod s.cfg.periodStep) <| onEvent .freqUp (stepPeriod (-s.cfg.periodStep)) s

/-- Step 4: the step events count in `OpenLoop` only (R211). -/
def stepEvents (s : State) : State := if s.mode = .openLoop then applySteps s else s

/-- The setpoint: the law's duty in `CloseLoop`, the manual duty in `OpenLoop` (R218, R219). -/
def setpoint (s : State) : Word := if s.mode = .closeLoop then s.ctl.buckDuty else s.geo.duty

/-- The next value of `RAMP` (R218). -/
def nextRamp (s : State) : Word := word (minInt (uval s.ramp + s.cfg.riseStep) (uval (setpoint s)))

/-- The next value of `RISE_CNT` (R218). -/
def nextRiseCnt (s : State) : Word := word (uval s.riseCnt + 1)

/-- Whether the ramp step completes the soft start (R218). -/
def rampDone (s : State) : Bool :=
  decide (uval (nextRamp s) ≥ uval (setpoint s)) || decide (uval (nextRiseCnt s) ≥ s.cfg.riseMaxCycles)

/-- Step 5, the ramp step (R218). -/
def rampStep (s : State) : State :=
  { s with ramp := nextRamp s, riseCnt := nextRiseCnt s, state := if rampDone s then .run else s.state }

/-- The duty of `Wait`, `Err`, `Rise` and `Run` (R219). -/
def activeDuty (s : State) : Word :=
  match s.state with
  | .rise => s.ramp
  | .run => setpoint s
  | .wait | .err => word s.cfg.minBuckDuty
  | .init => s.dutyAct

/-- Step 6 (R219). -/
def selectDuty (s : State) : State := { s with dutyAct := activeDuty s }

/-- Steps 3 and 5 look at the state at entry, `entry`, and at whether this tick trips. -/
def toggleIf (entry : ConvState) (trip : Bool) (s : State) : State :=
  if hasEvent s .mode && isActive entry && !trip then toggleMode s else s

/-- Step 5 runs in a tick that starts in `Rise` and does not trip (R218). -/
def rampIf (entry : ConvState) (trip : Bool) (s : State) : State :=
  if entry = .rise && !trip then rampStep s else s

/-- Steps 1 to 6 (R201). -/
def fsmSteps (s : State) : State :=
  let latched := latchFault s
  let trip := trips latched
  selectDuty (rampIf s.state trip (stepEvents (toggleIf s.state trip (transition latched))))

/-- Step 0, the `Init` tick (R203). -/
def fsmInit (s : State) : State := { initLoad s with state := .wait }

/-- The effect of `FSM` (R201). -/
def fsmStage (s : State) : State := { (if s.state = .init then fsmInit s else fsmSteps s) with stg := 6 }

/-- `FSM` (R201). -/
def execFsm (s : State) : Host.Outcome State Fault Refusal := .next (fsmStage s)

end Sys2Proof.Machine
end

