-- ==== Sys2Proof/Machine/HostCommands.lean ====
section
/-! DEFINITION. The host command words: `NOP`, the nine event posts and `RD` (45_host_commands.md). -/

namespace Sys2Proof.Machine

/-- `PEND <- PEND | (1 << ev)` (R241). -/
def postEvent (e : Event) (s : State) : State := { s with pend := s.pend ||| eventBit e }

/-- `NOP` (R240). -/
def execNop (s : State) : Host.Outcome State Fault Refusal := .next s

/-- `START` (R242). -/
def execStart (s : State) : Host.Outcome State Fault Refusal := .next (postEvent .start s)

/-- `ACK` (R243). -/
def execAck (s : State) : Host.Outcome State Fault Refusal := .next (postEvent .ack s)

/-- `MODE` (R244). -/
def execMode (s : State) : Host.Outcome State Fault Refusal := .next (postEvent .mode s)

/-- `FREQ_UP` (R245). -/
def execFreqUp (s : State) : Host.Outcome State Fault Refusal := .next (postEvent .freqUp s)

/-- `FREQ_DN` (R246). -/
def execFreqDn (s : State) : Host.Outcome State Fault Refusal := .next (postEvent .freqDn s)

/-- `DUTY_UP` (R247). -/
def execDutyUp (s : State) : Host.Outcome State Fault Refusal := .next (postEvent .dutyUp s)

/-- `DUTY_DN` (R248). -/
def execDutyDn (s : State) : Host.Outcome State Fault Refusal := .next (postEvent .dutyDn s)

/-- `DEAD_UP` (R249). -/
def execDeadUp (s : State) : Host.Outcome State Fault Refusal := .next (postEvent .deadUp s)

/-- `DEAD_DN` (R250). -/
def execDeadDn (s : State) : Host.Outcome State Fault Refusal := .next (postEvent .deadDn s)

/-- The effect of `RD idx`: the register, or 0 and `CMDERR` where none is implemented (R251). -/
def readIndex (idx : Nat) (s : State) : State :=
  match regAt idx with
  | some r => { s with rdata := r.read s }
  | none => { s with rdata := 0, cmdErr := true }

/-- `RD idx` (R251). -/
def execRd (idx : Nat) (s : State) : Host.Outcome State Fault Refusal := .next (readIndex idx s)

end Sys2Proof.Machine
end

