-- ==== Sys2Proof/Machine/Mapper.lean ====
section
/-! DEFINITION. `MAP`, the PWM dual-leg dead-time mapper (42_pwm_mapper.md). -/

namespace Sys2Proof.Machine

/-- The input tuple of the mapper (R170). -/
structure MapInput where
  period : Int
  half : Int
  duty : Int
  dead : Int
deriving DecidableEq, Repr

/-- The four inputs, read together; the duty is `DUTY_ACT`, not `GEO_DUTY` (R170). -/
def mapInput (s : State) : MapInput :=
  { period := uval s.geo.period, half := uval s.geo.half, duty := uval s.dutyAct, dead := uval s.geo.dead }

/-- The six rejecting conditions (R171). -/
def mapRejects (g : MapInput) : Bool :=
  decide (g.period ≤ 0) || decide (g.dead < 0) || decide (g.dead ≥ g.half) || decide (g.duty ≤ 0) ||
  decide (g.duty ≥ g.half) || decide (scaled g.half g.period < g.dead)

/-- The leg-A reset edge `scaled(half_period) - dead_time` (R173). -/
def legAReset (g : MapInput) : Int := scaled g.half g.period - g.dead

/-- The outputs of an accepted tuple (R173 to R175), leg B equal to leg A (R174). -/
def mapOutputs (g : MapInput) : Descriptor where
  period := word g.period
  mcmp1 := word (scaled g.half g.period)
  aRst := word (legAReset g)
  aDuty := word (scaled g.duty g.period)
  bRst := word (legAReset g)
  bDuty := word (scaled g.duty g.period)
  adcTrig := word (asr (legAReset g) 1)

/-- A rejection sets `MAP_ERR` and keeps the outputs (R176); an acceptance clears it and writes all seven (R177). -/
def applyMap (s : State) : State :=
  if mapRejects (mapInput s) then { s with mapErr := true }
  else { s with mapErr := false, out := mapOutputs (mapInput s) }

/-- The effect of `MAP`, nothing but `STG <- 000` in a tick that started in `Init` (R178). The tick ends, and with it
what the model keeps of its start (log 7). -/
def mapStage (s : State) : State := { (if s.tickInit then s else applyMap s) with stg := 0, tickInit := false }

/-- `MAP` (R170). -/
def execMap (s : State) : Host.Outcome State Fault Refusal := .next (mapStage s)

end Sys2Proof.Machine
end

