-- ==== Sys2Proof/Machine/Protection.lean ====
section
/-! DEFINITION. `PROT`, the protection comparator tree (43_protection.md). -/

namespace Sys2Proof.Machine

/-- The six comparators (R191): five on the averages, `SHORT` on the instantaneous output current (R192). -/
def protFlags (s : State) : BitVec 6 :=
  flagSet
    (decide (uval s.vin.avg < s.cfg.vinUvpTh))
    (decide (uval s.vin.avg > s.cfg.vinOvpTh))
    (decide (uval s.vout.avg < s.cfg.voutUvpTh))
    (decide (uval s.vout.avg > s.cfg.voutOvpTh))
    (decide (uval s.iout.avg > s.cfg.ioutOcpTh))
    (decide (sval s.iout.val > s.cfg.shortTh))

/-- The effect of `PROT`, nothing but `STG <- 101` in a tick that started in `Init` (R193, R194). -/
def protStage (s : State) : State :=
  { (if s.tickInit then s else { s with flagsNow := protFlags s }) with stg := 5 }

/-- `PROT` (R190). -/
def execProt (s : State) : Host.Outcome State Fault Refusal := .next (protStage s)

end Sys2Proof.Machine
end

