-- ==== Sys2Proof/Machine/Sampler.lean ====
section
/-! DEFINITION. `LATCH` (44_state_machine.md R200) and `SAMPLE` (40_sampler.md). -/

namespace Sys2Proof.Machine

/-- `RAW_c <- zext_12(adc_c)` (R200). -/
def captureCode (code : BitVec 12) (ch : Channel) : Channel := { ch with raw := code.zeroExtend 32 }

/-- The effect of `LATCH` (R200). -/
def latchStage (s : State) : State :=
  { s with
    evt := s.pend
    pend := 0
    vin := captureCode s.adc.vin s.vin
    iin := captureCode s.adc.iin s.iin
    vout := captureCode s.adc.vout s.vout
    iout := captureCode s.adc.iout s.iout
    stg := 2 }

/-- `LATCH` (R200): it runs in every tick. -/
def execLatch (s : State) : Host.Outcome State Fault Refusal := .next (latchStage s)

/-- `v0 = ((raw * CAL_K) >> 12) + CAL_B` (40_sampler.md R131). -/
def calibrate (cal : Cal) (raw : Word) : Int := asr (uval raw * cal.k) Config.kShift + cal.b

/-- The floor clamp of a voltage channel (R132). -/
def floorVoltage (v0 : Int) : Int := if v0 < Config.vFloor then 0 else v0

/-- The floor clamp of a current channel (R133). -/
def floorCurrent (v0 : Int) : Int := if v0 < Config.iZero then Config.iZero else v0

/-- `S + v - (S >> 2)` (R134). -/
def nextSum (sum : Word) (v : Int) : Word := word (uval sum + v - asr (uval sum) Config.avgShift)

/-- The instantaneous value, the new sum and the average of the new sum (R134). -/
def updateChannel (ch : Channel) (v : Int) : Channel :=
  { ch with
    val := word v
    sum := nextSum ch.sum v
    avg := word (asr (uval (nextSum ch.sum v)) Config.avgShift) }

/-- A voltage channel, R131, R132, R134. -/
def sampleVoltage (cal : Cal) (ch : Channel) : Channel := updateChannel ch (floorVoltage (calibrate cal ch.raw))

/-- A current channel, R131, R133, R134. -/
def sampleCurrent (cal : Cal) (ch : Channel) : Channel := updateChannel ch (floorCurrent (calibrate cal ch.raw))

/-- All four channels (R130). -/
def sampleChannels (s : State) : State :=
  { s with
    vin := sampleVoltage s.cfg.calVin s.vin
    iin := sampleCurrent s.cfg.calIin s.iin
    vout := sampleVoltage s.cfg.calVout s.vout
    iout := sampleCurrent s.cfg.calIout s.iout }

/-- The effect of `SAMPLE`, nothing but `STG <- 011` in a tick that started in `Init` (R136). -/
def sampleStage (s : State) : State := { (if s.tickInit then s else sampleChannels s) with stg := 3 }

/-- `SAMPLE` (R130). -/
def execSample (s : State) : Host.Outcome State Fault Refusal := .next (sampleStage s)

end Sys2Proof.Machine
end

