-- ==== Sys2Proof/Machine/Dispatch.lean ====
section
/-! DEFINITION. One arm per operation. -/

namespace Sys2Proof.Machine

def exec (i : Instr) (s : State) : Host.Outcome State Fault Refusal :=
  match i with
  | .latch => Sys2Proof.Machine.execLatch s
  | .sample => Sys2Proof.Machine.execSample s
  | .ctrl => Sys2Proof.Machine.execCtrl s
  | .prot => Sys2Proof.Machine.execProt s
  | .fsm => Sys2Proof.Machine.execFsm s
  | .map => Sys2Proof.Machine.execMap s
  | .nop => Sys2Proof.Machine.execNop s
  | .start => Sys2Proof.Machine.execStart s
  | .ack => Sys2Proof.Machine.execAck s
  | .mode => Sys2Proof.Machine.execMode s
  | .freqUp => Sys2Proof.Machine.execFreqUp s
  | .freqDn => Sys2Proof.Machine.execFreqDn s
  | .dutyUp => Sys2Proof.Machine.execDutyUp s
  | .dutyDn => Sys2Proof.Machine.execDutyDn s
  | .deadUp => Sys2Proof.Machine.execDeadUp s
  | .deadDn => Sys2Proof.Machine.execDeadDn s
  | .rd idx => Sys2Proof.Machine.execRd idx s

end Sys2Proof.Machine
end

