-- ==== Sys2Proof/Machine/Step.lean ====
section
/-! DEFINITION. One step of DPCORE: one operation, or one strobe (log 3). -/

namespace Sys2Proof.Machine

/-- Carry out what `fetch` found. -/
def step (s : State) : Host.Outcome State Fault Refusal :=
  match fetch s with
  | .run i t => exec i t
  | .goto t => .next t
  | .refuse r => .refused r

/-- `s` with the table word `w` placed where `step` fetches its next operation (log 12). -/
def State.withFetchWord (s : State) (nbits w : Nat) : State := placeWord (tableWord nbits w) s

end Sys2Proof.Machine
end

