-- ==== Sys2Proof/Safety.lean ====
section
/-! DEFINITION. Runs of several steps, the invariants of the state (10_state.md R50), and what stays the same. -/

namespace Sys2Proof.Machine

/-- `k` steps, stopping at a refusal. -/
def stepN (k : Nat) (s : State) : Host.Outcome State Fault Refusal :=
  match k with
  | 0 => .next s
  | k + 1 =>
    match step s with
    | .next t => stepN k t
    | .fault f => .fault f
    | .refused r => .refused r

/-- `k` runs of `SAMPLE` on the same raw codes, as `k` ticks with constant codes give them: no other operation of a tick
outside `Init` writes a running sum (40_sampler.md R135). -/
def sampleN (k : Nat) (s : State) : Host.Outcome State Fault Refusal :=
  match k with
  | 0 => .next s
  | k + 1 =>
    match exec .sample s with
    | .next t => sampleN k t
    | .fault f => .fault f
    | .refused r => .refused r

/-- R50 (a) to (c) of one channel: the raw code, the instantaneous value (0 or at least `floor` for a voltage, at least
`floor` for a current), the sum and the average of it. -/
abbrev ChannelInv (voltage : Bool) (floor : Int) (ch : Channel) : Prop :=
  uval ch.raw ≤ 4095 ∧
  ((voltage = true ∧ sval ch.val = 0) ∨ (floor ≤ sval ch.val ∧ sval ch.val ≤ 98286)) ∧
  uval ch.sum ≤ 393147 ∧ uval ch.avg = asr (uval ch.sum) 2

/-- R50 (a) to (c), and R26. -/
abbrev SamplerInv (s : State) : Prop :=
  ChannelInv true 100 s.vin ∧ ChannelInv false 2048 s.iin ∧ ChannelInv true 100 s.vout ∧ ChannelInv false 2048 s.iout ∧
  s.vadj = 0 ∧ s.vadjAvg = 0

/-- R29, R50 (d) and (e), and R28: the constant parameters, the history, the duty command, which is the disabled duty
while the output is disabled. -/
abbrev ControlInv (s : State) : Prop :=
  s.params = Params.reset s.cfg ∧
  (-98286 ≤ sval s.ctl.err1 ∧ sval s.ctl.err1 ≤ 65535) ∧ (-98286 ≤ sval s.ctl.err2 ∧ sval s.ctl.err2 ≤ 65535) ∧
  (s.cfg.minBuckDuty ≤ uval s.ctl.buckDuty ∧ uval s.ctl.buckDuty ≤ uval s.params.buckMaxDuty) ∧
  (s.outEn = false → uval s.ctl.buckDuty = s.cfg.minBuckDuty)

/-- R50 (f). -/
abbrev GeometryInv (s : State) : Prop :=
  uval s.geo.half = s.cfg.defHalf ∧
  (uval s.geo.period = s.cfg.defPeriod ∨ InRange (uval s.geo.period) s.cfg.periodMin s.cfg.periodMax) ∧
  (uval s.geo.duty = s.cfg.defDuty ∨ InRange (uval s.geo.duty) s.cfg.dutyMin s.cfg.dutyMax) ∧
  (uval s.geo.dead = s.cfg.defDead ∨ InRange (uval s.geo.dead) s.cfg.deadMin s.cfg.deadMax)

/-- R50 (j). -/
abbrev OutputInv (s : State) : Prop :=
  uval s.out.period ≤ 268427 ∧ uval s.out.mcmp1 ≤ 268427 ∧ uval s.out.aRst ≤ 268427 ∧ uval s.out.aDuty ≤ 268427 ∧
  uval s.out.bRst ≤ 268427 ∧ uval s.out.bDuty ≤ 268427 ∧ uval s.out.adcTrig ≤ 268427

/-- R50 (g), (h), (k) and 44_state_machine.md R222 (c): the soft start, the output enable, the latched fault, the
disabled duty. The count is below its bound while the soft start lasts. -/
abbrev FsmInv (s : State) : Prop :=
  (1 ≤ uval s.dutyAct ∧ uval s.dutyAct ≤ 65535) ∧ (1 ≤ uval s.ramp ∧ uval s.ramp ≤ 65535) ∧
  uval s.riseCnt ≤ s.cfg.riseMaxCycles ∧ (s.state = .rise → uval s.riseCnt < s.cfg.riseMaxCycles) ∧
  (s.outEn = true ↔ s.state = .rise ∨ s.state = .run) ∧
  (s.fault ≠ 0 ↔ s.state = .err) ∧
  (s.state = .wait ∨ s.state = .err → uval s.dutyAct = s.cfg.minBuckDuty)

/-- R45, R50 (i) and the model's record of the start of the tick (log 7): the stage code 111 does not occur, and the
record holds what it stands for. -/
abbrev SequencerInv (s : State) : Prop :=
  s.stg ≠ 7 ∧
  (s.stg = 0 → s.tickInit = false) ∧
  (1 ≤ s.stg.toNat ∧ s.stg.toNat ≤ 5 → (s.tickInit = true ↔ s.state = .init)) ∧
  (s.stg = 6 → s.state ≠ .init ∧ (s.tickInit = true → s.state = .wait))

/-- The invariants of the state (R50), of a machine that has a configuration (00_scope.md R9). They hold at every stage
of a tick too, so in particular between transactions. -/
def Inv (s : State) : Prop :=
  s.cfg.WellFormed ∧ SamplerInv s ∧ ControlInv s ∧ GeometryInv s ∧ OutputInv s ∧ FsmInv s ∧ SequencerInv s

/-! ### Words the claims are written in -/

/-- What `SAMPLE` does to a voltage channel (40_sampler.md R131, R132, R134): `before` to `after`. -/
def VoltageSampled (cal : Cal) (before after : Channel) : Prop :=
  ∃ v0 v : Int,
    v0 = uval before.raw * cal.k / 4096 + cal.b ∧ -32768 ≤ v0 ∧ v0 ≤ 98286 ∧
    (v0 < 100 → v = 0) ∧ (100 ≤ v0 → v = v0) ∧
    after.raw = before.raw ∧ sval after.val = v ∧
    uval after.sum = uval before.sum + v - uval before.sum / 4 ∧ uval after.sum ≤ 393147 ∧
    uval after.avg = uval after.sum / 4

/-- What `SAMPLE` does to a current channel (40_sampler.md R131, R133, R134): `before` to `after`. -/
def CurrentSampled (cal : Cal) (before after : Channel) : Prop :=
  ∃ v0 v : Int,
    v0 = uval before.raw * cal.k / 4096 + cal.b ∧ -32768 ≤ v0 ∧ v0 ≤ 98286 ∧
    (v0 < 2048 → v = 2048) ∧ (2048 ≤ v0 → v = v0) ∧
    after.raw = before.raw ∧ sval after.val = v ∧
    uval after.sum = uval before.sum + v - uval before.sum / 4 ∧ uval after.sum ≤ 393147 ∧
    uval after.avg = uval after.sum / 4

/-- The moving average goes toward the sample, does not pass it, and stays on it (40_sampler.md R139). -/
def AverageFollows (before after : Channel) : Prop :=
  (uval before.sum / 4 < sval after.val → uval before.sum < uval after.sum ∧ uval after.sum / 4 ≤ sval after.val) ∧
  (sval after.val < uval before.sum / 4 → uval after.sum < uval before.sum ∧ sval after.val ≤ uval after.sum / 4) ∧
  (uval before.sum / 4 = sval after.val → after.sum = before.sum)

/-- A channel after reset (10_state.md R49). -/
def ChannelResetValues (c : Cfg) (v : Int) (ch : Channel) : Prop :=
  uval ch.raw = 0 ∧ sval ch.val = v ∧ uval ch.sum = c.avgSeed * 4 ∧ uval ch.avg = c.avgSeed

/-- The table of reset values (10_state.md R49), register by register. -/
def ResetValues (c : Cfg) (t : State) : Prop :=
  (ChannelResetValues c 0 t.vin ∧ ChannelResetValues c 2048 t.iin ∧ ChannelResetValues c 0 t.vout ∧
    ChannelResetValues c 2048 t.iout ∧ uval t.vadj = 0 ∧ uval t.vadjAvg = 0) ∧
  (sval t.ctl.err1 = 0 ∧ sval t.ctl.err2 = 0 ∧ sval t.ctl.u1 = 0 ∧ uval t.ctl.buckDuty = c.minBuckDuty ∧
    uval t.params.boostDuty = c.boostDutyFixed ∧ uval t.params.voref = c.vorefInit ∧
    uval t.params.ioref = c.iorefInit ∧ uval t.params.ilimit = c.ilimitInit ∧
    uval t.params.ilimitOut = c.ilimitOutInit ∧ uval t.params.buckMaxDuty = c.buckMaxDutyInit ∧
    uval t.params.boostMaxDuty = c.boostMaxDutyInit) ∧
  (t.state = .init ∧ t.mode = c.modeInit ∧ t.outEn = false ∧ t.fault = 0 ∧ t.flagsNow = 0 ∧ t.mapErr = false ∧
    t.cmdErr = false ∧ t.uSat = false ∧ t.pend = 0 ∧ t.evt = 0 ∧ uval t.ramp = c.minBuckDuty ∧ uval t.riseCnt = 0 ∧
    uval t.dutyAct = c.minBuckDuty ∧ t.stg = 0 ∧
    (Reg.status.read t).toNat = match c.modeInit with | .openLoop => 0 | .closeLoop => 8) ∧
  (uval t.geo.period = c.defPeriod ∧ uval t.geo.half = c.defHalf ∧ uval t.geo.duty = c.defDuty ∧
    uval t.geo.dead = c.defDead ∧ t.out = Descriptor.zero)

/-- The states a trip is taken from (44_state_machine.md R201). -/
abbrev Active (c : ConvState) : Prop := c = .wait ∨ c = .rise ∨ c = .run

/-- No step event is in `EVT`: bits 8 to 3 (10_state.md R41). -/
abbrev NoStepEvent (s : State) : Prop := s.evt &&& 0x1F8#9 = 0

/-- `FAULT` after the latch of this tick (44_state_machine.md R202). -/
abbrev latchedFault (s : State) : BitVec 6 := s.fault ||| s.flagsNow

/-- The hazard premises under which the mapper accepts every geometry (70_reset_and_hazards.md R295 (a) to (d)), with
(d) asked of the default period and the default dead-time too. -/
abbrev SoundGeometry (c : Cfg) : Prop :=
  c.buckMaxDutyInit < c.defHalf ∧ c.defDead < c.defHalf ∧ c.defDuty < c.defHalf ∧ c.dutyMax < c.defHalf ∧
  c.deadMax < c.defHalf ∧
  c.deadMax ≤ scaled c.defHalf c.periodMin ∧ c.deadMax ≤ scaled c.defHalf c.defPeriod ∧
  c.defDead ≤ scaled c.defHalf c.periodMin ∧ c.defDead ≤ scaled c.defHalf c.defPeriod

/-- What a machine with a sound geometry keeps: the duties stay below the half-period, and no tuple was rejected. -/
def NeverRejected (s : State) : Prop :=
  Inv s ∧ uval s.dutyAct < s.cfg.defHalf ∧ uval s.ramp < s.cfg.defHalf ∧ s.mapErr = false

end Sys2Proof.Machine
end

