-- ==== Sys2Proof/Certificates/Slice0/Obligations.lean ====
section
/-! DEFINITION. The statements for the provers. A frame is written `t = { s with f := t.f, … }`: nothing but the fields
named there differs between `s` and `t`. -/

open Sys2Proof Sys2Proof.Machine

/-! ### Encoding -/

/-- Decoding what the encoder writes gives the instruction back, and every word that decodes to an instruction is the
word the encoder writes for it (30_encoding.md sections 2 and 3). -/
def Obligations.DecodeAndEncodeAgree : Prop :=
  (∀ i : Instr, i.WellFormed → decode (encode i) = .ok i) ∧
  (∀ (o : OpWord) (i : Instr), decode o = .ok i → i.WellFormed ∧ encode i = o)

/-- Which words are operations (30_encoding.md, sections 2 to 4): the fields of a host word are `cls`, `z`, `arg`. -/
def Obligations.HostWordsDecodeByClass : Prop :=
  ∀ w : BitVec 16,
    (w.toNat = 0 → decode (.host w) = .ok .nop) ∧
    (∀ e : Event, w.toNat = 0x1000 + e.num → decode (.host w) = .ok (.post e)) ∧
    (∀ idx : Nat, idx < 256 → w.toNat = 0x2000 + idx → decode (.host w) = .ok (.rd idx)) ∧
    (w.toNat / 4096 ≥ 3 ∨ w.toNat / 256 % 16 ≠ 0 ∨ (w.toNat / 4096 = 0 ∧ w.toNat % 256 ≠ 0) ∨
        (w.toNat / 4096 = 1 ∧ w.toNat % 256 ≥ 9) →
      ∀ i : Instr, decode (.host w) ≠ .ok i)

/-- An operation word has the fixed bits of its instruction's row of spec/opcode_table.json and of no other row. -/
def Obligations.OpcodeRowsDoNotOverlap : Prop :=
  ∀ (o : OpWord) (i : Instr), decode o = .ok i → i.row.Matches o ∧ ∀ j : Instr, j.row.Matches o → j.row = i.row

/-- Words written out from the encodings of 30_encoding.md R101, R103 to R105 decode to the operations they stand for:
the six stage codes, `NOP`, the nine posts, a read; and a word with a bit of `z` set is no operation. -/
def Obligations.WrittenOutWordsDecode : Prop :=
  decode (.stage 0b001#3) = .ok .latch ∧ decode (.stage 0b010#3) = .ok .sample ∧
  decode (.stage 0b011#3) = .ok .ctrl ∧ decode (.stage 0b100#3) = .ok .prot ∧
  decode (.stage 0b101#3) = .ok .fsm ∧ decode (.stage 0b110#3) = .ok .map ∧
  decode (.host 0b0000000000000000#16) = .ok .nop ∧
  decode (.host 0x1000#16) = .ok .start ∧ decode (.host 0x1001#16) = .ok .ack ∧
  decode (.host 0x1002#16) = .ok .mode ∧ decode (.host 0x1003#16) = .ok .freqUp ∧
  decode (.host 0x1004#16) = .ok .freqDn ∧ decode (.host 0x1005#16) = .ok .dutyUp ∧
  decode (.host 0x1006#16) = .ok .dutyDn ∧ decode (.host 0x1007#16) = .ok .deadUp ∧
  decode (.host 0x1008#16) = .ok .deadDn ∧
  decode (.host 0b0010000001001110#16) = .ok (.rd 0x4E) ∧ decode (.host 0b0010000100110000#16) = .error .reservedZ

/-! ### Steps and transactions -/

/-- A step runs the operation it decodes: the stage named by `STG` while a tick is in progress, else the host word that
is presented (30_encoding.md, 20_memory.md section 4; log 3). -/
def Obligations.StepRunsDecodedOperation : Prop :=
  ∀ s : State, s.cfg.WellFormed →
    (∀ i, decode (.stage s.stg) = .ok i → step s = exec i s) ∧
    (∀ w rest i, s.stg = 0 → s.inbox = { cmd := some w } :: rest → decode (.host w) = .ok i →
      step s = exec i { s with inbox := rest })

/-- A word placed for the fetch is the very next operation to run, on a state that differs from the given one at most
in the stage pointer and in the record of how the tick started (the model's interface, log 12). -/
def Obligations.PlacedWordRunsNext : Prop :=
  ∀ (s : State) (nbits w : Nat) (i : Instr), s.cfg.WellFormed → decodeTableWord nbits w = some i →
    ∃ t, step (s.withFetchWord nbits w) = exec i t ∧ t = { s with stg := t.stg, tickInit := t.tickInit }

/-- A reserved host word sets `CMDERR`; nothing else changes and no data is returned (45_host_commands.md R254). -/
def Obligations.ReservedWordOnlySetsCmdErr : Prop :=
  ∀ (s : State) (w : BitVec 16) (rest : List Arrival),
    s.cfg.WellFormed → s.stg = 0 → s.inbox = { cmd := some w } :: rest →
    (w.toNat / 4096 ≥ 3 ∨ w.toNat / 256 % 16 ≠ 0 ∨ (w.toNat / 4096 = 0 ∧ w.toNat % 256 ≠ 0) ∨
      (w.toNat / 4096 = 1 ∧ w.toNat % 256 ≥ 9)) →
    step s = .next { s with cmdErr := true, inbox := rest }

/-- The two refusals of the model are those the spec asks of a model (93_implementation_defined.md U3, U16): a
configuration that breaks R9 has no step, and stage code 111 is no operation. No other step is refused, and none
faults. -/
def Obligations.StepsRefusedOnlyWhereTheSpecRefuses : Prop :=
  ∀ s : State,
    (¬ s.cfg.WellFormed → step s = .refused .invalidConfig) ∧
    (s.cfg.WellFormed → s.stg = 7 → step s = .refused .reservedStage) ∧
    (s.cfg.WellFormed → s.stg ≠ 7 → ∃ t, step s = .next t)

/-- The tick: the strobe sets `STG` to 001, then `LATCH, SAMPLE, CTRL, PROT, FSM, MAP` run in this order, each once and
on the state the one before it left, and `MAP` leaves `STG` = 000 (45_host_commands.md R252). That the strobe and
the six stages are seven steps, the last clause, is the model's reading (log 3). -/
def Obligations.TickRunsTheSixStagesInOrder : Prop :=
  ∀ (s : State) (codes : AdcCodes) (rest : List Arrival),
    s.cfg.WellFormed → s.stg = 0 → s.inbox = { tick := some codes } :: rest →
    ∃ s0 s1 s2 s3 s4 s5 s6 : State,
      s0 = { s with stg := 1, adc := codes, tickInit := s0.tickInit, inbox := rest } ∧
      exec .latch s0 = .next s1 ∧ exec .sample s1 = .next s2 ∧ exec .ctrl s2 = .next s3 ∧ exec .prot s3 = .next s4 ∧
      exec .fsm s4 = .next s5 ∧ exec .map s5 = .next s6 ∧
      (s1.stg.toNat, s2.stg.toNat, s3.stg.toNat, s4.stg.toNat, s5.stg.toNat, s6.stg.toNat) = (2, 3, 4, 5, 6, 0) ∧
      s6.inbox = rest ∧ stepN 7 s = .next s6

/-- Nothing lands inside a tick: while a stage is to run, a step takes no arrival, posts no event by the host and
returns no data (20_memory.md R86). -/
def Obligations.NothingLandsInsideATick : Prop :=
  ∀ s : State, s.cfg.WellFormed → s.stg ≠ 0 → s.stg ≠ 7 →
    ∃ t, step s = .next t ∧ t.inbox = s.inbox ∧ t.choices = s.choices ∧ t.rdata = s.rdata ∧ t.cmdErr = s.cmdErr ∧
      (t.pend = s.pend ∨ (s.stg = 1 ∧ t.pend = 0 ∧ t.evt = s.pend))

/-- With no arrival an idle machine stays as it is (the model's choice of how it waits, log 2). -/
def Obligations.IdleMachineHolds : Prop :=
  ∀ s : State, s.cfg.WellFormed → s.stg = 0 → s.inbox = [] → step s = .next s

/-- A `TICK` and a host word that arrive together run one after the other, in one of the two orders, and neither is
lost; what coincides with `RESET` does not happen (20_memory.md R92). Which order it is rests on nothing: the
statement holds whatever the free value is (log 4). -/
def Obligations.SimultaneousArrivalsRunInSomeOrder : Prop :=
  ∀ (s : State) (codes : AdcCodes) (w : BitVec 16) (rest : List Arrival), s.cfg.WellFormed → s.stg = 0 →
    (step { s with inbox := { tick := some codes, cmd := some w } :: rest } =
        step { s with inbox := { tick := some codes } :: { cmd := some w } :: rest, choices := s.choices + 1 } ∨
      step { s with inbox := { tick := some codes, cmd := some w } :: rest } =
        step { s with inbox := { cmd := some w } :: { tick := some codes } :: rest, choices := s.choices + 1 }) ∧
    step { s with inbox := { rst := true, tick := some codes, cmd := some w } :: rest } =
      step { s with inbox := { rst := true } :: rest }

/-! ### Reset and the Init tick -/

/-- `RESET` sets every register to the value of the table of 10_state.md R49, for every configuration. -/
def Obligations.ResetSetsEveryRegister : Prop :=
  (∀ c : Cfg, c.WellFormed → ResetValues c (State.resetWith c)) ∧
  (∀ (s : State) (a : Arrival) (rest : List Arrival),
    s.cfg.WellFormed → s.stg = 0 → s.inbox = a :: rest → a.rst = true →
    ∃ t, step s = .next t ∧ ResetValues s.cfg t ∧ t.cfg = s.cfg ∧ t.inbox = rest)

/-- The tick that starts in `Init`: the ADC codes are captured, the events consumed, `InitLoad` loads its values and the
state becomes `Wait`; `OUT_*`, `MAP_ERR` and everything else keep their values. `Init` is entered by `RESET` only
(44_state_machine.md R203). That a tick is seven steps is the model's reading (log 3), and `adc` and `tickInit` are
fields of the model (logs 6, 7). -/
def Obligations.InitTickLoadsAndWaits : Prop :=
  (∀ s t : State, step s = .next t → s.state ≠ .init → t.state = .init →
    s.stg = 0 ∧ (takeInput s).1 = .reset) ∧
  ∀ (s : State) (codes : AdcCodes) (rest : List Arrival),
    s.cfg.WellFormed → s.stg = 0 → s.state = .init → s.inbox = { tick := some codes } :: rest →
    stepN 7 s = .next
      { s with
        vin := { Channel.reset s.cfg 0 with raw := codes.vin.zeroExtend 32 }
        iin := { Channel.reset s.cfg 2048 with raw := codes.iin.zeroExtend 32 }
        vout := { Channel.reset s.cfg 0 with raw := codes.vout.zeroExtend 32 }
        iout := { Channel.reset s.cfg 2048 with raw := codes.iout.zeroExtend 32 }
        ctl := Control.reset s.cfg
        params := Params.reset s.cfg
        geo := Geometry.default s.cfg
        state := .wait
        mode := s.cfg.modeInit
        outEn := false
        fault := 0
        flagsNow := 0
        uSat := false
        pend := 0
        evt := s.pend
        ramp := word s.cfg.minBuckDuty
        riseCnt := 0
        dutyAct := word s.cfg.minBuckDuty
        adc := codes
        tickInit := false
        inbox := rest }

/-- In a tick that started in `Init` the stages around `LATCH` and `FSM` occupy their slots and have no effect
(40_sampler.md R136, 41_control_law.md R157, 43_protection.md R194, 42_pwm_mapper.md R178); `tickInit` is the model's
record of how the tick started (log 7). -/
def Obligations.StagesOfTheInitTickHaveNoEffect : Prop :=
  ∀ s : State, s.tickInit = true →
    exec .sample s = .next { s with stg := 3 } ∧ exec .ctrl s = .next { s with stg := 4 } ∧
    exec .prot s = .next { s with stg := 5 } ∧ exec .map s = .next { s with stg := 0, tickInit := false }

/-- `FSM` in `Init` performs `InitLoad` and goes to `Wait`, whatever the events (44_state_machine.md R203,
70_reset_and_hazards.md R291): the loaded values, and what it does not write. Right after `RESET` the load changes
nothing. -/
def Obligations.FsmInInitLoadsParameters : Prop :=
  (∀ c : Cfg, exec .fsm { State.resetWith c with stg := 5 } =
    .next { State.resetWith c with state := .wait, stg := 6 }) ∧
  ∀ s : State, s.cfg.WellFormed → s.state = .init →
    ∃ t, exec .fsm s = .next t ∧ t.state = .wait ∧ t.mode = s.cfg.modeInit ∧ t.outEn = false ∧ t.fault = 0 ∧
      t.flagsNow = 0 ∧ t.uSat = false ∧
      sval t.vin.val = 0 ∧ sval t.iin.val = 2048 ∧ sval t.vout.val = 0 ∧ sval t.iout.val = 2048 ∧
      (∀ ch ∈ [t.vin, t.iin, t.vout, t.iout], uval ch.sum = 4 * s.cfg.avgSeed ∧ uval ch.avg = s.cfg.avgSeed) ∧
      t.ctl.err1 = 0 ∧ t.ctl.err2 = 0 ∧ t.ctl.u1 = 0 ∧ uval t.ctl.buckDuty = s.cfg.minBuckDuty ∧
      uval t.params.voref = s.cfg.vorefInit ∧ uval t.params.buckMaxDuty = s.cfg.buckMaxDutyInit ∧
      uval t.params.boostDuty = s.cfg.boostDutyFixed ∧ uval t.params.ioref = s.cfg.iorefInit ∧
      uval t.params.ilimit = s.cfg.ilimitInit ∧ uval t.params.ilimitOut = s.cfg.ilimitOutInit ∧
      uval t.params.boostMaxDuty = s.cfg.boostMaxDutyInit ∧
      uval t.geo.period = s.cfg.defPeriod ∧ uval t.geo.half = s.cfg.defHalf ∧ uval t.geo.duty = s.cfg.defDuty ∧
      uval t.geo.dead = s.cfg.defDead ∧
      uval t.ramp = s.cfg.minBuckDuty ∧ uval t.riseCnt = 0 ∧ uval t.dutyAct = s.cfg.minBuckDuty ∧
      t = { s with
            vin := { t.vin with raw := s.vin.raw }, iin := { t.iin with raw := s.iin.raw },
            vout := { t.vout with raw := s.vout.raw }, iout := { t.iout with raw := s.iout.raw },
            ctl := t.ctl, params := t.params, geo := t.geo, state := .wait, mode := t.mode, outEn := false, fault := 0,
            flagsNow := 0, uSat := false, ramp := t.ramp, riseCnt := t.riseCnt, dutyAct := t.dutyAct, stg := 6 }

/-! ### Host commands -/

/-- `NOP` changes nothing; each of the nine event posts `START`, `ACK`, `MODE`, `FREQ_UP`, `FREQ_DN`, `DUTY_UP`,
`DUTY_DN`, `DEAD_UP`, `DEAD_DN` sets its own bit of `PEND`, and nothing else changes (45_host_commands.md R240 to
R250). -/
def Obligations.EventPostsSetTheirBit : Prop :=
  ∀ s : State, exec .nop s = .next s ∧
    ∀ p ∈ [(Instr.start, 0), (Instr.ack, 1), (Instr.mode, 2), (Instr.freqUp, 3), (Instr.freqDn, 4), (Instr.dutyUp, 5),
        (Instr.dutyDn, 6), (Instr.deadUp, 7), (Instr.deadDn, 8)],
      ∃ t, exec p.1 s = .next t ∧ t = { s with pend := t.pend } ∧
        ∀ j : Nat, t.pend.getLsbD j = (s.pend.getLsbD j || decide (j = p.2))

/-- A post sets the bit of its number and nothing else, in every converter state; posts of one kind between two ticks
coalesce into one, and the order of posts of different kinds is not kept (45_host_commands.md R241). -/
def Obligations.PostsCoalesceAndForgetOrder : Prop :=
  ∀ (e f : Event) (s : State), ∃ t u v : State, t = { s with pend := s.pend ||| (1#9 <<< e.num) } ∧ e.num ≤ 8 ∧
    exec (.post e) s = .next t ∧ exec (.post e) t = .next t ∧
    exec (.post f) t = .next u ∧ exec (.post f) s = .next v ∧ exec (.post e) v = .next u

/-- `RD` returns the register of its index, in every row of the table of 10_state.md R48, and changes nothing else; an
index outside that table returns 0 and sets `CMDERR` (45_host_commands.md R251). -/
def Obligations.RdReturnsTheMappedRegister : Prop :=
  ∀ (s : State) (idx : Nat), idx < 256 → ∃ t, exec (.rd idx) s = .next t ∧
    (¬ (idx ≤ 0x11 ∨ (0x20 ≤ idx ∧ idx ≤ 0x2A) ∨ (0x30 ≤ idx ∧ idx ≤ 0x37) ∨ (0x40 ≤ idx ∧ idx ≤ 0x43) ∨
        (0x48 ≤ idx ∧ idx ≤ 0x4E)) →
      t = { s with rdata := 0, cmdErr := true }) ∧
    ((idx ≤ 0x11 ∨ (0x20 ≤ idx ∧ idx ≤ 0x2A) ∨ (0x30 ≤ idx ∧ idx ≤ 0x37) ∨ (0x40 ≤ idx ∧ idx ≤ 0x43) ∨
        (0x48 ≤ idx ∧ idx ≤ 0x4E)) →
      t = { s with rdata := t.rdata }) ∧
    (∀ p ∈ [(0x00, s.vin.raw), (0x01, s.iin.raw), (0x02, s.vout.raw), (0x03, s.iout.raw),
        (0x04, s.vin.val), (0x05, s.iin.val), (0x06, s.vout.val), (0x07, s.iout.val), (0x08, s.vadj),
        (0x09, s.vin.avg), (0x0A, s.iin.avg), (0x0B, s.vout.avg), (0x0C, s.iout.avg), (0x0D, s.vadjAvg),
        (0x0E, s.vin.sum), (0x0F, s.iin.sum), (0x10, s.vout.sum), (0x11, s.iout.sum)] ++
        [(0x20, s.ctl.err1), (0x21, s.ctl.err2), (0x22, s.ctl.u1), (0x23, s.ctl.buckDuty), (0x24, s.params.boostDuty),
        (0x25, s.params.voref), (0x26, s.params.ioref), (0x27, s.params.ilimit), (0x28, s.params.buckMaxDuty),
        (0x29, s.params.boostMaxDuty), (0x2A, s.params.ilimitOut)] ++
        [(0x30, Reg.status.read s), (0x31, s.fault.zeroExtend 32), (0x32, s.flagsNow.zeroExtend 32),
        (0x33, s.pend.zeroExtend 32), (0x34, s.evt.zeroExtend 32), (0x35, s.ramp), (0x36, s.riseCnt),
        (0x37, s.dutyAct)] ++
        [(0x40, s.geo.period), (0x41, s.geo.half), (0x42, s.geo.duty), (0x43, s.geo.dead), (0x48, s.out.period),
        (0x49, s.out.mcmp1), (0x4A, s.out.aRst), (0x4B, s.out.aDuty), (0x4C, s.out.bRst), (0x4D, s.out.bDuty),
        (0x4E, s.out.adcTrig)],
      idx = p.1 → t.rdata = p.2)

/-- `STATUS` bit by bit; the stage field is 0 whenever a host reads it (10_state.md R37). -/
def Obligations.StatusShowsItsFields : Prop :=
  (∀ (s : State) (rest : List Arrival),
    s.cfg.WellFormed → s.stg = 0 → s.inbox = { cmd := some 0x2030 } :: rest →
    ∃ t, step s = .next t ∧ t.rdata = Reg.status.read s ∧ t.rdata.toNat / 256 = 0) ∧
  ∀ s : State,
    (s.state = .init → (Reg.status.read s).toNat % 8 = 0) ∧ (s.state = .wait → (Reg.status.read s).toNat % 8 = 1) ∧
    (s.state = .rise → (Reg.status.read s).toNat % 8 = 2) ∧ (s.state = .run → (Reg.status.read s).toNat % 8 = 3) ∧
    (s.state = .err → (Reg.status.read s).toNat % 8 = 4) ∧
    ((Reg.status.read s).getLsbD 3 = true ↔ s.mode = .closeLoop) ∧ (Reg.status.read s).getLsbD 4 = s.outEn ∧
    (Reg.status.read s).getLsbD 5 = s.mapErr ∧ (Reg.status.read s).getLsbD 6 = s.cmdErr ∧
    (Reg.status.read s).getLsbD 7 = s.uSat ∧ (Reg.status.read s).toNat / 256 % 8 = s.stg.toNat ∧
    (Reg.status.read s).toNat < 2048

/-- A read has no side effect but `CMDERR`, and reading again gives the same (20_memory.md R84). -/
def Obligations.ReadsAreRepeatable : Prop :=
  ∀ (s : State) (idx : Nat), ∃ t, exec (.rd idx) s = .next t ∧ exec (.rd idx) t = .next t ∧
    t = { s with rdata := t.rdata, cmdErr := t.cmdErr } ∧ (s.cmdErr = true → t.cmdErr = true)

/-- The host writes no register: a step that takes a host word changes `PEND`, the read port and `CMDERR` at most
(20_memory.md R90, 60_exceptions.md R273). -/
def Obligations.HostWritesOnlyTheMailbox : Prop :=
  ∀ (s t : State) (a : Arrival) (rest : List Arrival),
    s.stg = 0 → s.inbox = a :: rest → a.rst = false → a.tick = none → step s = .next t →
    t = { s with pend := t.pend, rdata := t.rdata, cmdErr := t.cmdErr, inbox := rest } ∧
    (∀ j : Nat, s.pend.getLsbD j = true → t.pend.getLsbD j = true)

/-! ### LATCH and SAMPLE -/

/-- `LATCH` moves `PEND` to `EVT`, clears `PEND` and captures the four codes zero-extended, in every tick
(44_state_machine.md R200). -/
def Obligations.LatchTakesTheSnapshot : Prop :=
  ∀ s : State, ∃ t, exec .latch s = .next t ∧ t.evt = s.pend ∧ t.pend = 0 ∧
    uval t.vin.raw = s.adc.vin.toNat ∧ uval t.iin.raw = s.adc.iin.toNat ∧
    uval t.vout.raw = s.adc.vout.toNat ∧ uval t.iout.raw = s.adc.iout.toNat ∧
    t = { s with
          evt := t.evt, pend := 0, stg := 2,
          vin := { s.vin with raw := t.vin.raw }, iin := { s.iin with raw := t.iin.raw },
          vout := { s.vout with raw := t.vout.raw }, iout := { s.iout with raw := t.iout.raw } }

/-- `SAMPLE` calibrates, clamps and averages each of the four channels and changes nothing else (40_sampler.md R131 to
R134). -/
def Obligations.SampleCalibratesClampsAndAverages : Prop :=
  ∀ s : State, Inv s → s.tickInit = false →
    ∃ t, exec .sample s = .next t ∧
      VoltageSampled s.cfg.calVin s.vin t.vin ∧ CurrentSampled s.cfg.calIin s.iin t.iin ∧
      VoltageSampled s.cfg.calVout s.vout t.vout ∧ CurrentSampled s.cfg.calIout s.iout t.iout ∧
      t = { s with vin := t.vin, iin := t.iin, vout := t.vout, iout := t.iout, stg := 3 }

/-- Calibration does not invert ordering: a larger raw code never gives a smaller value (40_sampler.md R138, which the
spec derives). -/
def Obligations.SampleIsMonotonicInTheCode : Prop :=
  ∀ s s' t t' : State, s.cfg.WellFormed → s'.cfg = s.cfg → s.tickInit = false → s'.tickInit = false →
    (∀ ch ∈ [s.vin, s.iin, s.vout, s.iout, s'.vin, s'.iin, s'.vout, s'.iout], uval ch.raw ≤ 4095) →
    exec .sample s = .next t → exec .sample s' = .next t' →
    (uval s.vin.raw ≤ uval s'.vin.raw → sval t.vin.val ≤ sval t'.vin.val) ∧
    (uval s.iin.raw ≤ uval s'.iin.raw → sval t.iin.val ≤ sval t'.iin.val) ∧
    (uval s.vout.raw ≤ uval s'.vout.raw → sval t.vout.val ≤ sval t'.vout.val) ∧
    (uval s.iout.raw ≤ uval s'.iout.raw → sval t.iout.val ≤ sval t'.iout.val)

/-- Every average moves toward the sample, never past it, and stays where it has reached it (40_sampler.md R139, which
the spec derives). -/
def Obligations.AveragesFollowTheSample : Prop :=
  ∀ s t : State, Inv s → s.tickInit = false → exec .sample s = .next t →
    AverageFollows s.vin t.vin ∧ AverageFollows s.iin t.iin ∧ AverageFollows s.vout t.vout ∧ AverageFollows s.iout t.iout

/-- With constant codes the averages converge: from the seed 2048 an average is within 1 of a value of at most 4095
after 25 samples and equal to it after 29, and stays there (40_sampler.md R139, which the spec derives). -/
def Obligations.AveragesConvergeOnConstantCodes : Prop :=
  ∀ (s : State) (n : Nat), Inv s → s.tickInit = false →
    (∀ ch ∈ [s.vin, s.iin, s.vout, s.iout], uval ch.sum = 4 * 2048) → 25 ≤ n →
    ∃ t, sampleN n s = .next t ∧
      ∀ p ∈ [(s.vin, t.vin), (s.iin, t.iin), (s.vout, t.vout), (s.iout, t.iout)],
        p.2.raw = p.1.raw ∧
        (sval p.2.val ≤ 4095 →
          sval p.2.val - 1 ≤ uval p.2.avg ∧ uval p.2.avg ≤ sval p.2.val + 1 ∧
          (29 ≤ n → uval p.2.avg = sval p.2.val))

/-! ### CTRL -/

/-- The compensator: error, saturated accumulation, floor shift, clamp, disable override and history shift, and nothing
else (41_control_law.md R151 to R156). -/
def Obligations.CtrlComputesTheLaw : Prop :=
  ∀ s : State, Inv s → s.tickInit = false →
    ∃ (t : State) (e0 ux u0 : Int), exec .ctrl s = .next t ∧
      e0 = uval s.params.voref - sval s.vout.val ∧ -98286 ≤ e0 ∧ e0 ≤ 65535 ∧
      ux = sval s.ctl.u1 + e0 * s.cfg.pidB0 + sval s.ctl.err1 * s.cfg.pidB1 + sval s.ctl.err2 * s.cfg.pidB2 ∧
      -17179869184 < ux ∧ ux < 17179869184 ∧
      u0 = max (-2147483648) (min ux 2147483647) ∧
      (t.uSat = true ↔ s.uSat = true ∨ u0 ≠ ux) ∧
      -8388608 ≤ u0 / 256 ∧ u0 / 256 ≤ 8388607 ∧
      (s.outEn = true → uval t.ctl.buckDuty = max s.cfg.minBuckDuty (min (u0 / 256) (uval s.params.buckMaxDuty))) ∧
      (s.outEn = false → uval t.ctl.buckDuty = s.cfg.minBuckDuty) ∧
      t.ctl.err2 = s.ctl.err1 ∧ sval t.ctl.err1 = e0 ∧ sval t.ctl.u1 = u0 ∧
      t = { s with ctl := t.ctl, uSat := t.uSat, stg := 4 }

/-- The duty command is within its limits for any history, and exactly the minimum while the output is disabled
(41_control_law.md R162, which the spec derives). -/
def Obligations.CtrlDutyIsAlwaysWithinLimits : Prop :=
  ∀ s t : State, s.tickInit = false → 0 ≤ s.cfg.minBuckDuty → s.cfg.minBuckDuty ≤ uval s.params.buckMaxDuty →
    exec .ctrl s = .next t →
    s.cfg.minBuckDuty ≤ uval t.ctl.buckDuty ∧ uval t.ctl.buckDuty ≤ uval t.params.buckMaxDuty ∧
    (s.outEn = false → uval t.ctl.buckDuty = s.cfg.minBuckDuty)

/-! ### PROT -/

/-- The six comparators set the six bits of `FLAGS_NOW`, and nothing else changes; in a state that meets the invariants
what they compare is non-negative (43_protection.md R191, R193). -/
def Obligations.ProtSetsTheSixFlags : Prop :=
  ∀ s : State, s.tickInit = false →
    ∃ t, exec .prot s = .next t ∧
      (t.flagsNow.getLsbD 0 = true ↔ uval s.vin.avg < s.cfg.vinUvpTh) ∧
      (t.flagsNow.getLsbD 1 = true ↔ uval s.vin.avg > s.cfg.vinOvpTh) ∧
      (t.flagsNow.getLsbD 2 = true ↔ uval s.vout.avg < s.cfg.voutUvpTh) ∧
      (t.flagsNow.getLsbD 3 = true ↔ uval s.vout.avg > s.cfg.voutOvpTh) ∧
      (t.flagsNow.getLsbD 4 = true ↔ uval s.iout.avg > s.cfg.ioutOcpTh) ∧
      (t.flagsNow.getLsbD 5 = true ↔ sval s.iout.val > s.cfg.shortTh) ∧
      (t.flagsNow.getLsbD 0 = true → t.flagsNow.getLsbD 1 = true → s.cfg.vinUvpTh > s.cfg.vinOvpTh + 1) ∧
      (Inv s → 0 ≤ sval s.iout.val ∧
        ∀ th ∈ [s.cfg.vinUvpTh, s.cfg.vinOvpTh, s.cfg.voutUvpTh, s.cfg.voutOvpTh, s.cfg.ioutOcpTh, s.cfg.shortTh],
          0 ≤ th) ∧
      t = { s with flagsNow := t.flagsNow, stg := 5 }

/-! ### MAP -/

/-- An accepted tuple: `MAP_ERR` is cleared and the seven outputs take the scaled compare values together; nothing else
changes (42_pwm_mapper.md R173, R177). -/
def Obligations.MapAcceptsAndDrivesTheOutputs : Prop :=
  ∀ s : State, Inv s → s.tickInit = false →
    uval s.geo.period ≠ 0 → uval s.geo.dead < uval s.geo.half → uval s.dutyAct ≠ 0 → uval s.dutyAct < uval s.geo.half →
    uval s.geo.dead ≤ uval s.geo.half * uval s.geo.period / 16000 →
    ∃ t, exec .map s = .next t ∧ t.mapErr = false ∧
      uval t.out.period = uval s.geo.period ∧
      uval t.out.mcmp1 = uval s.geo.half * uval s.geo.period / 16000 ∧
      uval t.out.aRst = uval s.geo.half * uval s.geo.period / 16000 - uval s.geo.dead ∧
      uval t.out.aDuty = uval s.dutyAct * uval s.geo.period / 16000 ∧
      t.out.bRst = t.out.aRst ∧ t.out.bDuty = t.out.aDuty ∧ uval t.out.adcTrig = uval t.out.aRst / 2 ∧
      (∀ x ∈ [t.out.mcmp1, t.out.aRst, t.out.aDuty, t.out.bRst, t.out.bDuty, t.out.adcTrig], uval x ≤ 268427) ∧
      t = { s with out := t.out, mapErr := false, stg := 0, tickInit := false }

/-- `MAP_ERR` shows whether one of the six conditions held, and a rejection changes nothing else: no output, no request,
no fault, no state (42_pwm_mapper.md R171, R176). -/
def Obligations.MapRejectsAndKeepsTheOutputs : Prop :=
  ∀ s : State, s.tickInit = false →
    ∃ t, exec .map s = .next t ∧
      (t.mapErr = true ↔
        uval s.geo.period ≤ 0 ∨ uval s.geo.dead < 0 ∨ uval s.geo.dead ≥ uval s.geo.half ∨ uval s.dutyAct ≤ 0 ∨
        uval s.dutyAct ≥ uval s.geo.half ∨ uval s.geo.half * uval s.geo.period / 16000 < uval s.geo.dead) ∧
      (t.mapErr = true → t = { s with mapErr := true, stg := 0, tickInit := false })

/-- The outputs change in no other way: a step that changes an output is a `MAP` that accepts, or `RESET`, which
clears them all (10_state.md R31). -/
def Obligations.OnlyAcceptedMapsChangeTheOutputs : Prop :=
  ∀ s t : State, step s = .next t → t.out ≠ s.out →
    (s.stg = 6 ∧ s.tickInit = false ∧ t.mapErr = false ∧ uval s.dutyAct < uval s.geo.half ∧
      uval s.geo.dead < uval s.geo.half) ∨
    ((takeInput s).1 = .reset ∧ s.stg = 0 ∧ t.out = Descriptor.zero)

/-- With the premises of 70_reset_and_hazards.md R295 (a) to (d), taken for the default tuple too, no geometry is ever
rejected: `MAP_ERR` stays 0 at every step (the spec derives R295). -/
def Obligations.SoundGeometryIsNeverRejected : Prop :=
  (∀ c : Cfg, c.WellFormed → SoundGeometry c → NeverRejected (State.resetWith c)) ∧
  (∀ s t : State, SoundGeometry s.cfg → NeverRejected s → step s = .next t → NeverRejected t)

/-! ### FSM -/

/-- The trip: with a fault latched in `Wait`, `Rise` or `Run`, the tick goes to `Err`, disables the output and presents
the disabled duty; nothing else changes but the latched fault and, in `OpenLoop`, the geometry by a step event
(44_state_machine.md R208). -/
def Obligations.FsmTripsOnALatchedFault : Prop :=
  ∀ s : State, s.cfg.WellFormed → Active s.state → latchedFault s ≠ 0 →
    ∃ t, exec .fsm s = .next t ∧ t.state = .err ∧ t.outEn = false ∧ uval t.ctl.buckDuty = s.cfg.minBuckDuty ∧
      uval t.dutyAct = s.cfg.minBuckDuty ∧ t.fault = latchedFault s ∧
      (s.mode = .closeLoop ∨ NoStepEvent s → t.geo = s.geo) ∧ t.geo.half = s.geo.half ∧
      t = { s with
            state := .err, outEn := false, ctl := { s.ctl with buckDuty := t.ctl.buckDuty }, dutyAct := t.dutyAct,
            fault := t.fault, geo := t.geo, stg := 6 }

/-- The transition table, with what goes with each transition (44_state_machine.md R221): the state at entry, the
condition after the fault latch, the next state. -/
def Obligations.FsmFollowsTheTransitionTable : Prop :=
  ∀ s : State, ∃ t, exec .fsm s = .next t ∧
    (s.state = .init → t.state = .wait ∧ t.outEn = false ∧ t.fault = 0) ∧
    (s.state ≠ .init ∧ ¬ (s.state = .err ∧ s.evt.getLsbD 1 = true) → t.fault = latchedFault s) ∧
    (Active s.state ∧ latchedFault s ≠ 0 → t.state = .err ∧ t.outEn = false) ∧
    (s.state = .wait ∧ latchedFault s = 0 ∧ s.evt.getLsbD 0 = true →
      t.state = .rise ∧ t.outEn = true ∧ t.ramp = word s.cfg.minBuckDuty ∧ t.riseCnt = 0) ∧
    (s.state = .wait ∧ latchedFault s = 0 ∧ s.evt.getLsbD 0 = false → t.state = .wait ∧ t.outEn = s.outEn) ∧
    (s.state = .rise ∧ latchedFault s = 0 → (t.state = .rise ∨ t.state = .run) ∧ t.outEn = s.outEn ∧
      (t.state = .run ↔ uval t.ramp ≥ uval (setpoint t) ∨ uval t.riseCnt ≥ s.cfg.riseMaxCycles)) ∧
    (s.state = .run ∧ latchedFault s = 0 → t.state = .run ∧ t.outEn = s.outEn) ∧
    (s.state = .err ∧ s.evt.getLsbD 1 = true → t.state = .wait ∧ t.fault = 0 ∧ t.outEn = s.outEn) ∧
    (s.state = .err ∧ s.evt.getLsbD 1 = false → t.state = .err ∧ t.outEn = s.outEn)

/-- The mode toggle: in `Wait`, `Rise` or `Run` and not in a tripping tick, `MODE` is inverted, the geometry returns to
the default tuple, and entering `CloseLoop` clears the control history, while entering `OpenLoop` keeps it; `Wait` goes to
`Rise` by `START` and stays else, `Run` stays, `Rise` goes to `Rise` or `Run`; otherwise the event is dropped (44_state_machine.md R209, R210). -/
def Obligations.FsmTogglesTheMode : Prop :=
  ∀ s : State, s.state ≠ .init → ∃ t, exec .fsm s = .next t ∧
    (s.evt.getLsbD 2 = true ∧ Active s.state ∧ latchedFault s = 0 →
      t.mode ≠ s.mode ∧
      (t.mode = .closeLoop ∨ NoStepEvent s → t.geo = Geometry.default s.cfg) ∧
      (t.mode = .closeLoop → t.ctl = Control.reset s.cfg ∧ t.uSat = false) ∧
      (t.mode = .openLoop → t.ctl = s.ctl ∧ t.uSat = s.uSat) ∧
      (s.state = .wait → t.state = if s.evt.getLsbD 0 then .rise else .wait) ∧
      (s.state = .rise → t.state = .rise ∨ t.state = .run) ∧ (s.state = .run → t.state = .run)) ∧
    (s.evt.getLsbD 2 = false ∨ s.state = .err ∨ latchedFault s ≠ 0 →
      (t.mode = .closeLoop ∨ NoStepEvent s → t.geo = s.geo) ∧
      t.mode = s.mode ∧ t.uSat = s.uSat ∧ t.geo.half = s.geo.half ∧ t.ctl.u1 = s.ctl.u1 ∧ t.ctl.err1 = s.ctl.err1 ∧
      t.ctl.err2 = s.ctl.err2)

/-- The six step events when the mode after the toggle is `OpenLoop`: each bounded delta is clamped, on the result of
the one before, starting from the default tuple if the mode was toggled in this tick; in `CloseLoop` none has an effect,
nor in a tick that starts in `Init` (44_state_machine.md R211 to R217). -/
def Obligations.FsmAppliesTheStepEvents : Prop :=
  (∀ s : State, s.state = .init → ∃ t, exec .fsm s = .next t ∧ t.geo = Geometry.default s.cfg) ∧
  ∀ s : State, Inv s → s.state ≠ .init →
    ∃ (t : State) (g : Geometry) (p d x : Int), exec .fsm s = .next t ∧
      (s.evt.getLsbD 2 = true ∧ Active s.state ∧ latchedFault s = 0 → g = Geometry.default s.cfg ∧ t.mode ≠ s.mode) ∧
      (¬ (s.evt.getLsbD 2 = true ∧ Active s.state ∧ latchedFault s = 0) → g = s.geo ∧ t.mode = s.mode) ∧
      t.geo.half = g.half ∧ (t.mode = .closeLoop → t.geo = g) ∧
      p = (if s.evt.getLsbD 3 then max s.cfg.periodMin (min (uval g.period - s.cfg.periodStep) s.cfg.periodMax)
           else uval g.period) ∧
      d = (if s.evt.getLsbD 5 then max s.cfg.dutyMin (min (uval g.duty + s.cfg.dutyStep) s.cfg.dutyMax)
           else uval g.duty) ∧
      x = (if s.evt.getLsbD 7 then max s.cfg.deadMin (min (uval g.dead + s.cfg.deadStep) s.cfg.deadMax)
           else uval g.dead) ∧
      (t.mode = .openLoop →
        uval t.geo.period =
          (if s.evt.getLsbD 4 then max s.cfg.periodMin (min (p + s.cfg.periodStep) s.cfg.periodMax) else p) ∧
        uval t.geo.duty =
          (if s.evt.getLsbD 6 then max s.cfg.dutyMin (min (d - s.cfg.dutyStep) s.cfg.dutyMax) else d) ∧
        uval t.geo.dead =
          (if s.evt.getLsbD 8 then max s.cfg.deadMin (min (x - s.cfg.deadStep) s.cfg.deadMax) else x))

/-- The soft-start ramp in a tick that starts in `Rise` and does not trip (44_state_machine.md R218): the target is the
setpoint after this tick's events. -/
def Obligations.FsmRampsTheDuty : Prop :=
  ∀ s : State, Inv s → s.state = .rise → latchedFault s = 0 →
    ∃ (t : State) (target : Int), exec .fsm s = .next t ∧
      (t.mode = .closeLoop → target = uval t.ctl.buckDuty) ∧ (t.mode = .openLoop → target = uval t.geo.duty) ∧
      uval t.ramp = min (uval s.ramp + s.cfg.riseStep) target ∧ uval t.riseCnt = uval s.riseCnt + 1 ∧
      uval t.riseCnt ≤ s.cfg.riseMaxCycles ∧
      (t.state = .run ↔ uval t.ramp ≥ target ∨ uval t.riseCnt ≥ s.cfg.riseMaxCycles) ∧
      (t.state = .run ∨ t.state = .rise)

/-- The active duty after all transitions of the tick (44_state_machine.md R219). -/
def Obligations.FsmSelectsTheActiveDuty : Prop :=
  ∀ s : State, s.state ≠ .init → ∃ t, exec .fsm s = .next t ∧
    (t.state = .rise → t.dutyAct = t.ramp) ∧
    (t.state = .run → t.mode = .closeLoop → t.dutyAct = t.ctl.buckDuty) ∧
    (t.state = .run → t.mode = .openLoop → t.dutyAct = t.geo.duty) ∧
    (t.state = .wait ∨ t.state = .err → t.dutyAct = word s.cfg.minBuckDuty)

/-- What `FSM` leaves alone outside `Init` (44_state_machine.md R201: what it may write): samples, parameters, outputs,
mailbox and flags; the ramp and its count in `Run`, in `Err`, in a tripping tick, and in `Wait` with no `START`
(10_state.md R43); the control state with no toggle and no trip. -/
def Obligations.FsmFrame : Prop :=
  ∀ s : State, s.state ≠ .init → ∃ t, exec .fsm s = .next t ∧
    t = { s with
          state := t.state, mode := t.mode, outEn := t.outEn, fault := t.fault, ctl := t.ctl, uSat := t.uSat,
          ramp := t.ramp, riseCnt := t.riseCnt, dutyAct := t.dutyAct, geo := t.geo, stg := 6 } ∧
    (s.state = .run ∨ s.state = .err ∨ latchedFault s ≠ 0 ∨ (s.state = .wait ∧ s.evt.getLsbD 0 = false) →
      t.ramp = s.ramp ∧ t.riseCnt = s.riseCnt) ∧
    (s.evt.getLsbD 2 = false → latchedFault s = 0 ∨ s.state = .err → t.ctl = s.ctl)

/-- Events without effect are dropped: `START` outside `Wait` or in a tripping tick, `ACK` outside `Err`, `MODE` in `Err`
or in a tripping tick, step events in `CloseLoop`, every event in `Init` leave the tick as it would be without them; and
no event is carried over, for the next `LATCH` overwrites them all (44_state_machine.md R220). -/
def Obligations.IneffectiveEventsAreDropped : Prop :=
  (∀ (s t u : State) (bits : BitVec 9),
    (bits = 0x001#9 ∧ (s.state ≠ .wait ∨ latchedFault s ≠ 0)) ∨ (bits = 0x002#9 ∧ s.state ≠ .err) ∨
      (bits = 0x004#9 ∧ (s.state = .err ∨ latchedFault s ≠ 0)) ∨ (bits = 0x1F8#9 ∧ t.mode = .closeLoop) ∨
      s.state = .init →
    exec .fsm s = .next t → exec .fsm { s with evt := s.evt &&& ~~~bits } = .next u →
    u = { t with evt := s.evt &&& ~~~bits }) ∧
  (∀ (s : State) (evt : BitVec 9), exec .latch { s with evt := evt } = exec .latch s)

/-! ### The whole machine -/

/-- No operation stops, and each register is written by the operations that the register map names and by no other
(10_state.md R48, "written by"; 40_sampler.md R135): none writes the configuration, the `VADJ` registers, the inputs or
the ADC pins. -/
def Obligations.OperationsWriteOnlyTheirRegisters : Prop :=
  ∀ (i : Instr) (s : State), ∃ t, exec i s = .next t ∧
    t.cfg = s.cfg ∧ t.vadj = s.vadj ∧ t.vadjAvg = s.vadjAvg ∧ t.inbox = s.inbox ∧ t.adc = s.adc ∧
    t.choices = s.choices ∧
    ((∀ idx, i ≠ .rd idx) → t.rdata = s.rdata ∧ t.cmdErr = s.cmdErr) ∧
    (i ≠ .latch → t.evt = s.evt ∧ t.vin.raw = s.vin.raw ∧ t.iin.raw = s.iin.raw ∧ t.vout.raw = s.vout.raw ∧
      t.iout.raw = s.iout.raw) ∧
    (i ≠ .latch → (∀ e, i ≠ .post e) → t.pend = s.pend) ∧
    (i ≠ .sample → i ≠ .fsm →
      t.vin = { s.vin with raw := t.vin.raw } ∧ t.iin = { s.iin with raw := t.iin.raw } ∧
      t.vout = { s.vout with raw := t.vout.raw } ∧ t.iout = { s.iout with raw := t.iout.raw }) ∧
    (i ≠ .ctrl → i ≠ .fsm → t.ctl = s.ctl ∧ t.uSat = s.uSat) ∧
    (i ≠ .prot → i ≠ .fsm → t.flagsNow = s.flagsNow) ∧
    (i ≠ .map → t.out = s.out ∧ t.mapErr = s.mapErr) ∧
    (i ≠ .fsm → t.state = s.state ∧ t.mode = s.mode ∧ t.outEn = s.outEn ∧ t.fault = s.fault ∧ t.params = s.params ∧
      t.geo = s.geo ∧ t.ramp = s.ramp ∧ t.riseCnt = s.riseCnt ∧ t.dutyAct = s.dutyAct)

/-- The invariants of 10_state.md R50 are kept by every step, for every configuration and from every state that meets
them (the spec derives R50; `tickInit` in them is the model's, log 7). -/
def Obligations.EveryStepKeepsTheInvariants : Prop :=
  ∀ s t : State, Inv s → step s = .next t → Inv t

/-- The reset state of every configuration meets the invariants. -/
def Obligations.ResetMeetsTheInvariants : Prop := ∀ c : Cfg, c.WellFormed → Inv (State.resetWith c)

/-- A short circuit trips in the tick of its sample: if the calibrated output current of the tick's code, clamped to at
least 2048, is above `SHORT_TH`, then from `Wait`, `Rise` or `Run` the same tick ends in `Err` with the cause recorded, the output disabled
and the disabled duty presented (44_state_machine.md R222 (d), which the spec derives; that a tick is seven steps is the
model's reading, log 3). -/
def Obligations.ShortCircuitTripsInTheSameTick : Prop :=
  ∀ (s : State) (codes : AdcCodes) (rest : List Arrival),
    Inv s → s.stg = 0 → s.inbox = { tick := some codes } :: rest → Active s.state →
    max 2048 ((codes.iout.toNat : Int) * s.cfg.calIout.k / 4096 + s.cfg.calIout.b) > s.cfg.shortTh →
    ∃ t, stepN 7 s = .next t ∧ t.stg = 0 ∧ t.state = .err ∧ t.outEn = false ∧ t.fault.getLsbD 5 = true ∧
      uval t.dutyAct = s.cfg.minBuckDuty ∧ uval t.ctl.buckDuty = s.cfg.minBuckDuty

/-- `Err` is left by an acknowledge or by `RESET` only (44_state_machine.md R207). -/
def Obligations.OnlyAckOrResetLeavesErr : Prop :=
  ∀ s t : State, step s = .next t → s.state = .err → t.state ≠ .err →
    (s.stg = 5 ∧ s.evt.getLsbD 1 = true ∧ t.state = .wait ∧ t.fault = 0 ∧ t.outEn = s.outEn) ∨
    (s.stg = 0 ∧ (takeInput s).1 = .reset ∧ t.state = .init)

/-- The output becomes enabled by one event only: `START` in `Wait` with no fault latched (44_state_machine.md R204). -/
def Obligations.OnlyStartEnablesTheOutput : Prop :=
  ∀ s t : State, step s = .next t → s.outEn = false → t.outEn = true →
    s.stg = 5 ∧ s.state = .wait ∧ s.evt.getLsbD 0 = true ∧ latchedFault s = 0 ∧ t.state = .rise ∧
    t.dutyAct = word s.cfg.minBuckDuty

/-- The mode changes by the explicit mode-switch action, or by being loaded at `Init` and `RESET` (10_state.md R33). -/
def Obligations.OnlyTheModeEventSwitchesTheMode : Prop :=
  ∀ s t : State, step s = .next t → t.mode ≠ s.mode →
    (s.stg = 5 ∧ s.state = .init ∧ t.mode = s.cfg.modeInit) ∨
    (s.stg = 5 ∧ s.evt.getLsbD 2 = true ∧ Active s.state ∧ latchedFault s = 0) ∨
    (s.stg = 0 ∧ (takeInput s).1 = .reset ∧ t.mode = s.cfg.modeInit)

/-- A latched fault bit goes away by an acknowledge in `Err`, by `InitLoad` or by `RESET` only (10_state.md R35); the
sticky `CMDERR` by `RESET` only (R39), the sticky `U_SAT` by a control-state reset only (R40). -/
def Obligations.LatchedBitsStayUntilCleared : Prop :=
  ∀ s t : State, step s = .next t →
    (∀ j : Nat, s.fault.getLsbD j = true → t.fault.getLsbD j = false →
      (s.stg = 5 ∧ ((s.state = .err ∧ s.evt.getLsbD 1 = true) ∨ s.state = .init)) ∨
        (s.stg = 0 ∧ (takeInput s).1 = .reset)) ∧
    (s.cmdErr = true → t.cmdErr = false → s.stg = 0 ∧ (takeInput s).1 = .reset) ∧
    (s.uSat = true → t.uSat = false →
      (s.stg = 5 ∧ (s.state = .init ∨ (s.evt.getLsbD 2 = true ∧ t.mode = .closeLoop ∧ s.mode = .openLoop))) ∨
        (s.stg = 0 ∧ (takeInput s).1 = .reset))

/-- The input current is read by no other operation: in a tick, whatever the registers of that channel hold, every other
register takes the same value (93_implementation_defined.md U33). -/
def Obligations.InputCurrentInfluencesNothingElse : Prop :=
  ∀ (s t t' : State) (ch : Channel), s.stg ≠ 0 → step s = .next t → step { s with iin := ch } = .next t' →
    t = { t' with iin := t.iin }

/-- What the outside sees: between transactions the ports show the registers and `STATUS` whole (20_memory.md R81, R91;
that the view has a port for all of `STATUS` is log 18), and inside a tick they show nothing (log 14). -/
def Obligations.PortsShowTheRegisters : Prop :=
  ∀ s : State,
    (s.stg ≠ 0 → s.ports = none) ∧
    (s.stg = 0 → ∃ p, s.ports = some p ∧
      p.rdata = s.rdata ∧ p.pwm = s.out ∧ (p.pwmEn = 1 ↔ s.outEn = true) ∧ p.fault = s.fault ∧
      p.status = Reg.status.read s ∧ p.state.toNat = p.status.toNat % 8 ∧ (p.mode = 1 ↔ s.mode = .closeLoop) ∧
      p.boostDuty = s.params.boostDuty)
end

