-- ==== Sys2Proof/Laws/Arith.lean ====
section
/-! SUPPORT. What the word readings and the arithmetic helpers do: one lemma per fact, cited instead of unfolding. -/

namespace Sys2Proof

theorem uval_nonneg (w : Word) : 0 ≤ uval w := by unfold uval; omega

theorem uval_lt (w : Word) : uval w < 4294967296 := by unfold uval; have := w.isLt; omega

theorem sval_ge (w : Word) : -2147483648 ≤ sval w := by
  unfold sval; have := BitVec.le_toInt w; simpa using this

theorem sval_lt (w : Word) : sval w < 2147483648 := by
  unfold sval; have := BitVec.toInt_lt (x := w); simpa using this

/-- A result that fits an unsigned register is read back as it was written. -/
theorem uval_word {x : Int} (h0 : 0 ≤ x) (h1 : x < 4294967296) : uval (word x) = x := by
  unfold uval word; rw [BitVec.toNat_ofInt]; omega

/-- A result that fits a signed register is read back as it was written. -/
theorem sval_word {x : Int} (h0 : -2147483648 ≤ x) (h1 : x < 2147483648) : sval (word x) = x := by
  unfold sval word; rw [BitVec.toInt_ofInt]; simp only [Int.bmod]; omega

@[simp] theorem uval_zero : uval 0#32 = 0 := rfl

@[simp] theorem sval_zero : sval 0#32 = 0 := rfl

theorem word_uval (w : Word) : word (uval w) = w := by
  unfold word uval; simp [BitVec.ofInt_natCast]

theorem word_sval (w : Word) : word (sval w) = w := by unfold word sval; exact BitVec.ofInt_toInt

theorem eq_of_uval_eq {a b : Word} (h : uval a = uval b) : a = b := by
  rw [← word_uval a, ← word_uval b, h]

/-- A register that holds a value below 2^31 reads the same signed and unsigned. -/
theorem sval_eq_uval {w : Word} (h : uval w < 2147483648) : sval w = uval w := by
  have := word_uval w
  rw [← this, sval_word (by have := uval_nonneg w; omega) (by omega), this]

/-- A field narrower than a register is zero-extended (00_scope.md R16). -/
theorem uval_zeroExtend {n : Nat} (v : BitVec n) (h : n ≤ 32) : uval (v.zeroExtend 32) = v.toNat := by
  have h1 : v.toNat < 2 ^ 32 := lt_of_lt_of_le v.isLt (Nat.pow_le_pow_right (by decide) h)
  unfold uval
  rw [show v.zeroExtend 32 = v.setWidth 32 from rfl, BitVec.toNat_setWidth, Nat.mod_eq_of_lt h1]

namespace Cfg

/-- What a well-formed configuration meets (00_scope.md R9). -/
theorem wellFormed_iff (c : Cfg) :
    c.WellFormed ↔ c.SamplerOk ∧ c.ControlOk ∧ c.ThresholdsOk ∧ c.GeometryOk ∧ c.RampOk := by
  simp only [WellFormed, wellFormed, Bool.and_eq_true, decide_eq_true_eq, and_assoc]

end Cfg

namespace Machine

theorem asr_mono {x y : Int} (n : Nat) (h : x ≤ y) : asr x n ≤ asr y n :=
  Int.ediv_le_ediv (by positivity) h

theorem asr_nonneg {x : Int} (n : Nat) (h : 0 ≤ x) : 0 ≤ asr x n :=
  Int.ediv_nonneg h (by positivity)

theorem asr_one (x : Int) : asr x 1 = x / 2 := rfl

theorem asr_two (x : Int) : asr x 2 = x / 4 := rfl

theorem asr_eight (x : Int) : asr x 8 = x / 256 := rfl

theorem asr_twelve (x : Int) : asr x 12 = x / 4096 := rfl

/-- With ordered bounds `clamp` gives a value between them. -/
theorem clamp_mem {x lo hi : Int} (h : lo ≤ hi) : lo ≤ clamp x lo hi ∧ clamp x lo hi ≤ hi := by
  unfold clamp; split_ifs <;> omega

/-- `clamp` keeps a value that is within its bounds. -/
theorem clamp_of_mem {x lo hi : Int} (h0 : lo ≤ x) (h1 : x ≤ hi) : clamp x lo hi = x := by
  unfold clamp; split_ifs <;> omega

/-- With ordered bounds the order of the two tests does not matter (00_scope.md R15). -/
theorem clamp_eq_max_min {x lo hi : Int} (h : lo ≤ hi) : clamp x lo hi = max lo (min x hi) := by
  unfold clamp; split_ifs <;> omega

theorem sat32_mem (x : Int) : -2147483648 ≤ sat32 x ∧ sat32 x ≤ 2147483647 := clamp_mem (by decide)

theorem sat32_eq_iff (x : Int) : sat32 x = x ↔ -2147483648 ≤ x ∧ x ≤ 2147483647 := by
  constructor
  · intro h; rw [← h]; exact sat32_mem x
  · intro h; exact clamp_of_mem h.1 h.2

theorem minInt_eq_min (a b : Int) : minInt a b = min a b := by unfold minInt; split_ifs <;> omega

theorem scaled_eq (x p : Int) : scaled x p = x * p / 16000 := rfl

theorem scaled_nonneg {x p : Int} (hx : 0 ≤ x) (hp : 0 ≤ p) : 0 ≤ scaled x p :=
  Int.ediv_nonneg (Int.mul_nonneg hx hp) (by decide)

/-- Two 16-bit operands scale to at most 268427 (10_state.md R50 (j)). -/
theorem scaled_le {x p : Int} (hx0 : 0 ≤ x) (hx : x ≤ 65535) (hp : p ≤ 65535) : scaled x p ≤ 268427 := by
  have h : x * p ≤ 65535 * 65535 := by nlinarith
  rw [scaled_eq]; omega

end Machine

end Sys2Proof
end

