-- ==== Sys2Proof/Laws/State.lean ====
section
/-! SUPPORT. What each shared update of the state gives, one lemma per field, so that no proof unfolds a record update. -/

namespace Sys2Proof.Machine

/-! `ctlReset` -/

@[simp] theorem ctlReset_cfg (s : State) : (ctlReset s).cfg = s.cfg := rfl
@[simp] theorem ctlReset_vin (s : State) : (ctlReset s).vin = s.vin := rfl
@[simp] theorem ctlReset_iin (s : State) : (ctlReset s).iin = s.iin := rfl
@[simp] theorem ctlReset_vout (s : State) : (ctlReset s).vout = s.vout := rfl
@[simp] theorem ctlReset_iout (s : State) : (ctlReset s).iout = s.iout := rfl
@[simp] theorem ctlReset_vadj (s : State) : (ctlReset s).vadj = s.vadj := rfl
@[simp] theorem ctlReset_vadjAvg (s : State) : (ctlReset s).vadjAvg = s.vadjAvg := rfl
@[simp] theorem ctlReset_ctl (s : State) : (ctlReset s).ctl = Control.reset s.cfg := rfl
@[simp] theorem ctlReset_params (s : State) : (ctlReset s).params = s.params := rfl
@[simp] theorem ctlReset_geo (s : State) : (ctlReset s).geo = s.geo := rfl
@[simp] theorem ctlReset_out (s : State) : (ctlReset s).out = s.out := rfl
@[simp] theorem ctlReset_state (s : State) : (ctlReset s).state = s.state := rfl
@[simp] theorem ctlReset_mode (s : State) : (ctlReset s).mode = s.mode := rfl
@[simp] theorem ctlReset_outEn (s : State) : (ctlReset s).outEn = s.outEn := rfl
@[simp] theorem ctlReset_fault (s : State) : (ctlReset s).fault = s.fault := rfl
@[simp] theorem ctlReset_flagsNow (s : State) : (ctlReset s).flagsNow = s.flagsNow := rfl
@[simp] theorem ctlReset_mapErr (s : State) : (ctlReset s).mapErr = s.mapErr := rfl
@[simp] theorem ctlReset_cmdErr (s : State) : (ctlReset s).cmdErr = s.cmdErr := rfl
@[simp] theorem ctlReset_uSat (s : State) : (ctlReset s).uSat = false := rfl
@[simp] theorem ctlReset_pend (s : State) : (ctlReset s).pend = s.pend := rfl
@[simp] theorem ctlReset_evt (s : State) : (ctlReset s).evt = s.evt := rfl
@[simp] theorem ctlReset_ramp (s : State) : (ctlReset s).ramp = s.ramp := rfl
@[simp] theorem ctlReset_riseCnt (s : State) : (ctlReset s).riseCnt = s.riseCnt := rfl
@[simp] theorem ctlReset_dutyAct (s : State) : (ctlReset s).dutyAct = s.dutyAct := rfl
@[simp] theorem ctlReset_stg (s : State) : (ctlReset s).stg = s.stg := rfl
@[simp] theorem ctlReset_rdata (s : State) : (ctlReset s).rdata = s.rdata := rfl
@[simp] theorem ctlReset_adc (s : State) : (ctlReset s).adc = s.adc := rfl
@[simp] theorem ctlReset_tickInit (s : State) : (ctlReset s).tickInit = s.tickInit := rfl
@[simp] theorem ctlReset_inbox (s : State) : (ctlReset s).inbox = s.inbox := rfl
@[simp] theorem ctlReset_choices (s : State) : (ctlReset s).choices = s.choices := rfl

/-! `geoDefault` -/

@[simp] theorem geoDefault_cfg (s : State) : (geoDefault s).cfg = s.cfg := rfl
@[simp] theorem geoDefault_vin (s : State) : (geoDefault s).vin = s.vin := rfl
@[simp] theorem geoDefault_iin (s : State) : (geoDefault s).iin = s.iin := rfl
@[simp] theorem geoDefault_vout (s : State) : (geoDefault s).vout = s.vout := rfl
@[simp] theorem geoDefault_iout (s : State) : (geoDefault s).iout = s.iout := rfl
@[simp] theorem geoDefault_vadj (s : State) : (geoDefault s).vadj = s.vadj := rfl
@[simp] theorem geoDefault_vadjAvg (s : State) : (geoDefault s).vadjAvg = s.vadjAvg := rfl
@[simp] theorem geoDefault_ctl (s : State) : (geoDefault s).ctl = s.ctl := rfl
@[simp] theorem geoDefault_params (s : State) : (geoDefault s).params = s.params := rfl
@[simp] theorem geoDefault_geo (s : State) : (geoDefault s).geo = Geometry.default s.cfg := rfl
@[simp] theorem geoDefault_out (s : State) : (geoDefault s).out = s.out := rfl
@[simp] theorem geoDefault_state (s : State) : (geoDefault s).state = s.state := rfl
@[simp] theorem geoDefault_mode (s : State) : (geoDefault s).mode = s.mode := rfl
@[simp] theorem geoDefault_outEn (s : State) : (geoDefault s).outEn = s.outEn := rfl
@[simp] theorem geoDefault_fault (s : State) : (geoDefault s).fault = s.fault := rfl
@[simp] theorem geoDefault_flagsNow (s : State) : (geoDefault s).flagsNow = s.flagsNow := rfl
@[simp] theorem geoDefault_mapErr (s : State) : (geoDefault s).mapErr = s.mapErr := rfl
@[simp] theorem geoDefault_cmdErr (s : State) : (geoDefault s).cmdErr = s.cmdErr := rfl
@[simp] theorem geoDefault_uSat (s : State) : (geoDefault s).uSat = s.uSat := rfl
@[simp] theorem geoDefault_pend (s : State) : (geoDefault s).pend = s.pend := rfl
@[simp] theorem geoDefault_evt (s : State) : (geoDefault s).evt = s.evt := rfl
@[simp] theorem geoDefault_ramp (s : State) : (geoDefault s).ramp = s.ramp := rfl
@[simp] theorem geoDefault_riseCnt (s : State) : (geoDefault s).riseCnt = s.riseCnt := rfl
@[simp] theorem geoDefault_dutyAct (s : State) : (geoDefault s).dutyAct = s.dutyAct := rfl
@[simp] theorem geoDefault_stg (s : State) : (geoDefault s).stg = s.stg := rfl
@[simp] theorem geoDefault_rdata (s : State) : (geoDefault s).rdata = s.rdata := rfl
@[simp] theorem geoDefault_adc (s : State) : (geoDefault s).adc = s.adc := rfl
@[simp] theorem geoDefault_tickInit (s : State) : (geoDefault s).tickInit = s.tickInit := rfl
@[simp] theorem geoDefault_inbox (s : State) : (geoDefault s).inbox = s.inbox := rfl
@[simp] theorem geoDefault_choices (s : State) : (geoDefault s).choices = s.choices := rfl

/-! `initLoad` -/

@[simp] theorem initLoad_cfg (s : State) : (initLoad s).cfg = s.cfg := rfl
@[simp] theorem initLoad_vin (s : State) : (initLoad s).vin = seedChannel s.cfg 0 s.vin := rfl
@[simp] theorem initLoad_iin (s : State) : (initLoad s).iin = seedChannel s.cfg Config.iZero s.iin := rfl
@[simp] theorem initLoad_vout (s : State) : (initLoad s).vout = seedChannel s.cfg 0 s.vout := rfl
@[simp] theorem initLoad_iout (s : State) : (initLoad s).iout = seedChannel s.cfg Config.iZero s.iout := rfl
@[simp] theorem initLoad_vadj (s : State) : (initLoad s).vadj = s.vadj := rfl
@[simp] theorem initLoad_vadjAvg (s : State) : (initLoad s).vadjAvg = s.vadjAvg := rfl
@[simp] theorem initLoad_ctl (s : State) : (initLoad s).ctl = Control.reset s.cfg := rfl
@[simp] theorem initLoad_params (s : State) : (initLoad s).params = Params.reset s.cfg := rfl
@[simp] theorem initLoad_geo (s : State) : (initLoad s).geo = Geometry.default s.cfg := rfl
@[simp] theorem initLoad_out (s : State) : (initLoad s).out = s.out := rfl
@[simp] theorem initLoad_state (s : State) : (initLoad s).state = s.state := rfl
@[simp] theorem initLoad_mode (s : State) : (initLoad s).mode = s.cfg.modeInit := rfl
@[simp] theorem initLoad_outEn (s : State) : (initLoad s).outEn = false := rfl
@[simp] theorem initLoad_fault (s : State) : (initLoad s).fault = 0 := rfl
@[simp] theorem initLoad_flagsNow (s : State) : (initLoad s).flagsNow = 0 := rfl
@[simp] theorem initLoad_mapErr (s : State) : (initLoad s).mapErr = s.mapErr := rfl
@[simp] theorem initLoad_cmdErr (s : State) : (initLoad s).cmdErr = s.cmdErr := rfl
@[simp] theorem initLoad_uSat (s : State) : (initLoad s).uSat = false := rfl
@[simp] theorem initLoad_pend (s : State) : (initLoad s).pend = s.pend := rfl
@[simp] theorem initLoad_evt (s : State) : (initLoad s).evt = s.evt := rfl
@[simp] theorem initLoad_ramp (s : State) : (initLoad s).ramp = word s.cfg.minBuckDuty := rfl
@[simp] theorem initLoad_riseCnt (s : State) : (initLoad s).riseCnt = 0 := rfl
@[simp] theorem initLoad_dutyAct (s : State) : (initLoad s).dutyAct = word s.cfg.minBuckDuty := rfl
@[simp] theorem initLoad_stg (s : State) : (initLoad s).stg = s.stg := rfl
@[simp] theorem initLoad_rdata (s : State) : (initLoad s).rdata = s.rdata := rfl
@[simp] theorem initLoad_adc (s : State) : (initLoad s).adc = s.adc := rfl
@[simp] theorem initLoad_tickInit (s : State) : (initLoad s).tickInit = s.tickInit := rfl
@[simp] theorem initLoad_inbox (s : State) : (initLoad s).inbox = s.inbox := rfl
@[simp] theorem initLoad_choices (s : State) : (initLoad s).choices = s.choices := rfl

/-! `enterErr` -/

@[simp] theorem enterErr_cfg (s : State) : (enterErr s).cfg = s.cfg := rfl
@[simp] theorem enterErr_vin (s : State) : (enterErr s).vin = s.vin := rfl
@[simp] theorem enterErr_iin (s : State) : (enterErr s).iin = s.iin := rfl
@[simp] theorem enterErr_vout (s : State) : (enterErr s).vout = s.vout := rfl
@[simp] theorem enterErr_iout (s : State) : (enterErr s).iout = s.iout := rfl
@[simp] theorem enterErr_vadj (s : State) : (enterErr s).vadj = s.vadj := rfl
@[simp] theorem enterErr_vadjAvg (s : State) : (enterErr s).vadjAvg = s.vadjAvg := rfl
@[simp] theorem enterErr_ctl (s : State) : (enterErr s).ctl = { s.ctl with buckDuty := word s.cfg.minBuckDuty } := rfl
@[simp] theorem enterErr_params (s : State) : (enterErr s).params = s.params := rfl
@[simp] theorem enterErr_geo (s : State) : (enterErr s).geo = s.geo := rfl
@[simp] theorem enterErr_out (s : State) : (enterErr s).out = s.out := rfl
@[simp] theorem enterErr_state (s : State) : (enterErr s).state = .err := rfl
@[simp] theorem enterErr_mode (s : State) : (enterErr s).mode = s.mode := rfl
@[simp] theorem enterErr_outEn (s : State) : (enterErr s).outEn = false := rfl
@[simp] theorem enterErr_fault (s : State) : (enterErr s).fault = s.fault := rfl
@[simp] theorem enterErr_flagsNow (s : State) : (enterErr s).flagsNow = s.flagsNow := rfl
@[simp] theorem enterErr_mapErr (s : State) : (enterErr s).mapErr = s.mapErr := rfl
@[simp] theorem enterErr_cmdErr (s : State) : (enterErr s).cmdErr = s.cmdErr := rfl
@[simp] theorem enterErr_uSat (s : State) : (enterErr s).uSat = s.uSat := rfl
@[simp] theorem enterErr_pend (s : State) : (enterErr s).pend = s.pend := rfl
@[simp] theorem enterErr_evt (s : State) : (enterErr s).evt = s.evt := rfl
@[simp] theorem enterErr_ramp (s : State) : (enterErr s).ramp = s.ramp := rfl
@[simp] theorem enterErr_riseCnt (s : State) : (enterErr s).riseCnt = s.riseCnt := rfl
@[simp] theorem enterErr_dutyAct (s : State) : (enterErr s).dutyAct = s.dutyAct := rfl
@[simp] theorem enterErr_stg (s : State) : (enterErr s).stg = s.stg := rfl
@[simp] theorem enterErr_rdata (s : State) : (enterErr s).rdata = s.rdata := rfl
@[simp] theorem enterErr_adc (s : State) : (enterErr s).adc = s.adc := rfl
@[simp] theorem enterErr_tickInit (s : State) : (enterErr s).tickInit = s.tickInit := rfl
@[simp] theorem enterErr_inbox (s : State) : (enterErr s).inbox = s.inbox := rfl
@[simp] theorem enterErr_choices (s : State) : (enterErr s).choices = s.choices := rfl

/-! `leaveErr` -/

@[simp] theorem leaveErr_cfg (s : State) : (leaveErr s).cfg = s.cfg := rfl
@[simp] theorem leaveErr_vin (s : State) : (leaveErr s).vin = s.vin := rfl
@[simp] theorem leaveErr_iin (s : State) : (leaveErr s).iin = s.iin := rfl
@[simp] theorem leaveErr_vout (s : State) : (leaveErr s).vout = s.vout := rfl
@[simp] theorem leaveErr_iout (s : State) : (leaveErr s).iout = s.iout := rfl
@[simp] theorem leaveErr_vadj (s : State) : (leaveErr s).vadj = s.vadj := rfl
@[simp] theorem leaveErr_vadjAvg (s : State) : (leaveErr s).vadjAvg = s.vadjAvg := rfl
@[simp] theorem leaveErr_ctl (s : State) : (leaveErr s).ctl = s.ctl := rfl
@[simp] theorem leaveErr_params (s : State) : (leaveErr s).params = s.params := rfl
@[simp] theorem leaveErr_geo (s : State) : (leaveErr s).geo = s.geo := rfl
@[simp] theorem leaveErr_out (s : State) : (leaveErr s).out = s.out := rfl
@[simp] theorem leaveErr_state (s : State) : (leaveErr s).state = .wait := rfl
@[simp] theorem leaveErr_mode (s : State) : (leaveErr s).mode = s.mode := rfl
@[simp] theorem leaveErr_outEn (s : State) : (leaveErr s).outEn = s.outEn := rfl
@[simp] theorem leaveErr_fault (s : State) : (leaveErr s).fault = 0 := rfl
@[simp] theorem leaveErr_flagsNow (s : State) : (leaveErr s).flagsNow = s.flagsNow := rfl
@[simp] theorem leaveErr_mapErr (s : State) : (leaveErr s).mapErr = s.mapErr := rfl
@[simp] theorem leaveErr_cmdErr (s : State) : (leaveErr s).cmdErr = s.cmdErr := rfl
@[simp] theorem leaveErr_uSat (s : State) : (leaveErr s).uSat = s.uSat := rfl
@[simp] theorem leaveErr_pend (s : State) : (leaveErr s).pend = s.pend := rfl
@[simp] theorem leaveErr_evt (s : State) : (leaveErr s).evt = s.evt := rfl
@[simp] theorem leaveErr_ramp (s : State) : (leaveErr s).ramp = s.ramp := rfl
@[simp] theorem leaveErr_riseCnt (s : State) : (leaveErr s).riseCnt = s.riseCnt := rfl
@[simp] theorem leaveErr_dutyAct (s : State) : (leaveErr s).dutyAct = s.dutyAct := rfl
@[simp] theorem leaveErr_stg (s : State) : (leaveErr s).stg = s.stg := rfl
@[simp] theorem leaveErr_rdata (s : State) : (leaveErr s).rdata = s.rdata := rfl
@[simp] theorem leaveErr_adc (s : State) : (leaveErr s).adc = s.adc := rfl
@[simp] theorem leaveErr_tickInit (s : State) : (leaveErr s).tickInit = s.tickInit := rfl
@[simp] theorem leaveErr_inbox (s : State) : (leaveErr s).inbox = s.inbox := rfl
@[simp] theorem leaveErr_choices (s : State) : (leaveErr s).choices = s.choices := rfl

/-! `resetEvent` -/

@[simp] theorem resetEvent_cfg (s : State) : (resetEvent s).cfg = s.cfg := rfl
@[simp] theorem resetEvent_vin (s : State) : (resetEvent s).vin = (State.resetWith s.cfg).vin := rfl
@[simp] theorem resetEvent_iin (s : State) : (resetEvent s).iin = (State.resetWith s.cfg).iin := rfl
@[simp] theorem resetEvent_vout (s : State) : (resetEvent s).vout = (State.resetWith s.cfg).vout := rfl
@[simp] theorem resetEvent_iout (s : State) : (resetEvent s).iout = (State.resetWith s.cfg).iout := rfl
@[simp] theorem resetEvent_vadj (s : State) : (resetEvent s).vadj = (State.resetWith s.cfg).vadj := rfl
@[simp] theorem resetEvent_vadjAvg (s : State) : (resetEvent s).vadjAvg = (State.resetWith s.cfg).vadjAvg := rfl
@[simp] theorem resetEvent_ctl (s : State) : (resetEvent s).ctl = (State.resetWith s.cfg).ctl := rfl
@[simp] theorem resetEvent_params (s : State) : (resetEvent s).params = (State.resetWith s.cfg).params := rfl
@[simp] theorem resetEvent_geo (s : State) : (resetEvent s).geo = (State.resetWith s.cfg).geo := rfl
@[simp] theorem resetEvent_out (s : State) : (resetEvent s).out = (State.resetWith s.cfg).out := rfl
@[simp] theorem resetEvent_state (s : State) : (resetEvent s).state = (State.resetWith s.cfg).state := rfl
@[simp] theorem resetEvent_mode (s : State) : (resetEvent s).mode = (State.resetWith s.cfg).mode := rfl
@[simp] theorem resetEvent_outEn (s : State) : (resetEvent s).outEn = (State.resetWith s.cfg).outEn := rfl
@[simp] theorem resetEvent_fault (s : State) : (resetEvent s).fault = (State.resetWith s.cfg).fault := rfl
@[simp] theorem resetEvent_flagsNow (s : State) : (resetEvent s).flagsNow = (State.resetWith s.cfg).flagsNow := rfl
@[simp] theorem resetEvent_mapErr (s : State) : (resetEvent s).mapErr = (State.resetWith s.cfg).mapErr := rfl
@[simp] theorem resetEvent_cmdErr (s : State) : (resetEvent s).cmdErr = (State.resetWith s.cfg).cmdErr := rfl
@[simp] theorem resetEvent_uSat (s : State) : (resetEvent s).uSat = (State.resetWith s.cfg).uSat := rfl
@[simp] theorem resetEvent_pend (s : State) : (resetEvent s).pend = (State.resetWith s.cfg).pend := rfl
@[simp] theorem resetEvent_evt (s : State) : (resetEvent s).evt = (State.resetWith s.cfg).evt := rfl
@[simp] theorem resetEvent_ramp (s : State) : (resetEvent s).ramp = (State.resetWith s.cfg).ramp := rfl
@[simp] theorem resetEvent_riseCnt (s : State) : (resetEvent s).riseCnt = (State.resetWith s.cfg).riseCnt := rfl
@[simp] theorem resetEvent_dutyAct (s : State) : (resetEvent s).dutyAct = (State.resetWith s.cfg).dutyAct := rfl
@[simp] theorem resetEvent_stg (s : State) : (resetEvent s).stg = (State.resetWith s.cfg).stg := rfl
@[simp] theorem resetEvent_rdata (s : State) : (resetEvent s).rdata = s.rdata := rfl
@[simp] theorem resetEvent_adc (s : State) : (resetEvent s).adc = s.adc := rfl
@[simp] theorem resetEvent_tickInit (s : State) : (resetEvent s).tickInit = (State.resetWith s.cfg).tickInit := rfl
@[simp] theorem resetEvent_inbox (s : State) : (resetEvent s).inbox = s.inbox := rfl
@[simp] theorem resetEvent_choices (s : State) : (resetEvent s).choices = s.choices := rfl

/-! `tickEvent` -/

@[simp] theorem tickEvent_cfg (codes : AdcCodes) (s : State) : (tickEvent codes s).cfg = s.cfg := rfl
@[simp] theorem tickEvent_vin (codes : AdcCodes) (s : State) : (tickEvent codes s).vin = s.vin := rfl
@[simp] theorem tickEvent_iin (codes : AdcCodes) (s : State) : (tickEvent codes s).iin = s.iin := rfl
@[simp] theorem tickEvent_vout (codes : AdcCodes) (s : State) : (tickEvent codes s).vout = s.vout := rfl
@[simp] theorem tickEvent_iout (codes : AdcCodes) (s : State) : (tickEvent codes s).iout = s.iout := rfl
@[simp] theorem tickEvent_vadj (codes : AdcCodes) (s : State) : (tickEvent codes s).vadj = s.vadj := rfl
@[simp] theorem tickEvent_vadjAvg (codes : AdcCodes) (s : State) : (tickEvent codes s).vadjAvg = s.vadjAvg := rfl
@[simp] theorem tickEvent_ctl (codes : AdcCodes) (s : State) : (tickEvent codes s).ctl = s.ctl := rfl
@[simp] theorem tickEvent_params (codes : AdcCodes) (s : State) : (tickEvent codes s).params = s.params := rfl
@[simp] theorem tickEvent_geo (codes : AdcCodes) (s : State) : (tickEvent codes s).geo = s.geo := rfl
@[simp] theorem tickEvent_out (codes : AdcCodes) (s : State) : (tickEvent codes s).out = s.out := rfl
@[simp] theorem tickEvent_state (codes : AdcCodes) (s : State) : (tickEvent codes s).state = s.state := rfl
@[simp] theorem tickEvent_mode (codes : AdcCodes) (s : State) : (tickEvent codes s).mode = s.mode := rfl
@[simp] theorem tickEvent_outEn (codes : AdcCodes) (s : State) : (tickEvent codes s).outEn = s.outEn := rfl
@[simp] theorem tickEvent_fault (codes : AdcCodes) (s : State) : (tickEvent codes s).fault = s.fault := rfl
@[simp] theorem tickEvent_flagsNow (codes : AdcCodes) (s : State) : (tickEvent codes s).flagsNow = s.flagsNow := rfl
@[simp] theorem tickEvent_mapErr (codes : AdcCodes) (s : State) : (tickEvent codes s).mapErr = s.mapErr := rfl
@[simp] theorem tickEvent_cmdErr (codes : AdcCodes) (s : State) : (tickEvent codes s).cmdErr = s.cmdErr := rfl
@[simp] theorem tickEvent_uSat (codes : AdcCodes) (s : State) : (tickEvent codes s).uSat = s.uSat := rfl
@[simp] theorem tickEvent_pend (codes : AdcCodes) (s : State) : (tickEvent codes s).pend = s.pend := rfl
@[simp] theorem tickEvent_evt (codes : AdcCodes) (s : State) : (tickEvent codes s).evt = s.evt := rfl
@[simp] theorem tickEvent_ramp (codes : AdcCodes) (s : State) : (tickEvent codes s).ramp = s.ramp := rfl
@[simp] theorem tickEvent_riseCnt (codes : AdcCodes) (s : State) : (tickEvent codes s).riseCnt = s.riseCnt := rfl
@[simp] theorem tickEvent_dutyAct (codes : AdcCodes) (s : State) : (tickEvent codes s).dutyAct = s.dutyAct := rfl
@[simp] theorem tickEvent_stg (codes : AdcCodes) (s : State) : (tickEvent codes s).stg = 1 := rfl
@[simp] theorem tickEvent_rdata (codes : AdcCodes) (s : State) : (tickEvent codes s).rdata = s.rdata := rfl
@[simp] theorem tickEvent_adc (codes : AdcCodes) (s : State) : (tickEvent codes s).adc = codes := rfl
@[simp] theorem tickEvent_tickInit (codes : AdcCodes) (s : State) : (tickEvent codes s).tickInit = decide (s.state = .init) := rfl
@[simp] theorem tickEvent_inbox (codes : AdcCodes) (s : State) : (tickEvent codes s).inbox = s.inbox := rfl
@[simp] theorem tickEvent_choices (codes : AdcCodes) (s : State) : (tickEvent codes s).choices = s.choices := rfl

/-! `reservedWord` -/

@[simp] theorem reservedWord_cfg (s : State) : (reservedWord s).cfg = s.cfg := rfl
@[simp] theorem reservedWord_vin (s : State) : (reservedWord s).vin = s.vin := rfl
@[simp] theorem reservedWord_iin (s : State) : (reservedWord s).iin = s.iin := rfl
@[simp] theorem reservedWord_vout (s : State) : (reservedWord s).vout = s.vout := rfl
@[simp] theorem reservedWord_iout (s : State) : (reservedWord s).iout = s.iout := rfl
@[simp] theorem reservedWord_vadj (s : State) : (reservedWord s).vadj = s.vadj := rfl
@[simp] theorem reservedWord_vadjAvg (s : State) : (reservedWord s).vadjAvg = s.vadjAvg := rfl
@[simp] theorem reservedWord_ctl (s : State) : (reservedWord s).ctl = s.ctl := rfl
@[simp] theorem reservedWord_params (s : State) : (reservedWord s).params = s.params := rfl
@[simp] theorem reservedWord_geo (s : State) : (reservedWord s).geo = s.geo := rfl
@[simp] theorem reservedWord_out (s : State) : (reservedWord s).out = s.out := rfl
@[simp] theorem reservedWord_state (s : State) : (reservedWord s).state = s.state := rfl
@[simp] theorem reservedWord_mode (s : State) : (reservedWord s).mode = s.mode := rfl
@[simp] theorem reservedWord_outEn (s : State) : (reservedWord s).outEn = s.outEn := rfl
@[simp] theorem reservedWord_fault (s : State) : (reservedWord s).fault = s.fault := rfl
@[simp] theorem reservedWord_flagsNow (s : State) : (reservedWord s).flagsNow = s.flagsNow := rfl
@[simp] theorem reservedWord_mapErr (s : State) : (reservedWord s).mapErr = s.mapErr := rfl
@[simp] theorem reservedWord_cmdErr (s : State) : (reservedWord s).cmdErr = true := rfl
@[simp] theorem reservedWord_uSat (s : State) : (reservedWord s).uSat = s.uSat := rfl
@[simp] theorem reservedWord_pend (s : State) : (reservedWord s).pend = s.pend := rfl
@[simp] theorem reservedWord_evt (s : State) : (reservedWord s).evt = s.evt := rfl
@[simp] theorem reservedWord_ramp (s : State) : (reservedWord s).ramp = s.ramp := rfl
@[simp] theorem reservedWord_riseCnt (s : State) : (reservedWord s).riseCnt = s.riseCnt := rfl
@[simp] theorem reservedWord_dutyAct (s : State) : (reservedWord s).dutyAct = s.dutyAct := rfl
@[simp] theorem reservedWord_stg (s : State) : (reservedWord s).stg = s.stg := rfl
@[simp] theorem reservedWord_rdata (s : State) : (reservedWord s).rdata = s.rdata := rfl
@[simp] theorem reservedWord_adc (s : State) : (reservedWord s).adc = s.adc := rfl
@[simp] theorem reservedWord_tickInit (s : State) : (reservedWord s).tickInit = s.tickInit := rfl
@[simp] theorem reservedWord_inbox (s : State) : (reservedWord s).inbox = s.inbox := rfl
@[simp] theorem reservedWord_choices (s : State) : (reservedWord s).choices = s.choices := rfl

/-! `latchStage` -/

@[simp] theorem latchStage_cfg (s : State) : (latchStage s).cfg = s.cfg := rfl
@[simp] theorem latchStage_vin (s : State) : (latchStage s).vin = captureCode s.adc.vin s.vin := rfl
@[simp] theorem latchStage_iin (s : State) : (latchStage s).iin = captureCode s.adc.iin s.iin := rfl
@[simp] theorem latchStage_vout (s : State) : (latchStage s).vout = captureCode s.adc.vout s.vout := rfl
@[simp] theorem latchStage_iout (s : State) : (latchStage s).iout = captureCode s.adc.iout s.iout := rfl
@[simp] theorem latchStage_vadj (s : State) : (latchStage s).vadj = s.vadj := rfl
@[simp] theorem latchStage_vadjAvg (s : State) : (latchStage s).vadjAvg = s.vadjAvg := rfl
@[simp] theorem latchStage_ctl (s : State) : (latchStage s).ctl = s.ctl := rfl
@[simp] theorem latchStage_params (s : State) : (latchStage s).params = s.params := rfl
@[simp] theorem latchStage_geo (s : State) : (latchStage s).geo = s.geo := rfl
@[simp] theorem latchStage_out (s : State) : (latchStage s).out = s.out := rfl
@[simp] theorem latchStage_state (s : State) : (latchStage s).state = s.state := rfl
@[simp] theorem latchStage_mode (s : State) : (latchStage s).mode = s.mode := rfl
@[simp] theorem latchStage_outEn (s : State) : (latchStage s).outEn = s.outEn := rfl
@[simp] theorem latchStage_fault (s : State) : (latchStage s).fault = s.fault := rfl
@[simp] theorem latchStage_flagsNow (s : State) : (latchStage s).flagsNow = s.flagsNow := rfl
@[simp] theorem latchStage_mapErr (s : State) : (latchStage s).mapErr = s.mapErr := rfl
@[simp] theorem latchStage_cmdErr (s : State) : (latchStage s).cmdErr = s.cmdErr := rfl
@[simp] theorem latchStage_uSat (s : State) : (latchStage s).uSat = s.uSat := rfl
@[simp] theorem latchStage_pend (s : State) : (latchStage s).pend = 0 := rfl
@[simp] theorem latchStage_evt (s : State) : (latchStage s).evt = s.pend := rfl
@[simp] theorem latchStage_ramp (s : State) : (latchStage s).ramp = s.ramp := rfl
@[simp] theorem latchStage_riseCnt (s : State) : (latchStage s).riseCnt = s.riseCnt := rfl
@[simp] theorem latchStage_dutyAct (s : State) : (latchStage s).dutyAct = s.dutyAct := rfl
@[simp] theorem latchStage_stg (s : State) : (latchStage s).stg = 2 := rfl
@[simp] theorem latchStage_rdata (s : State) : (latchStage s).rdata = s.rdata := rfl
@[simp] theorem latchStage_adc (s : State) : (latchStage s).adc = s.adc := rfl
@[simp] theorem latchStage_tickInit (s : State) : (latchStage s).tickInit = s.tickInit := rfl
@[simp] theorem latchStage_inbox (s : State) : (latchStage s).inbox = s.inbox := rfl
@[simp] theorem latchStage_choices (s : State) : (latchStage s).choices = s.choices := rfl

/-! `sampleChannels` -/

@[simp] theorem sampleChannels_cfg (s : State) : (sampleChannels s).cfg = s.cfg := rfl
@[simp] theorem sampleChannels_vin (s : State) : (sampleChannels s).vin = sampleVoltage s.cfg.calVin s.vin := rfl
@[simp] theorem sampleChannels_iin (s : State) : (sampleChannels s).iin = sampleCurrent s.cfg.calIin s.iin := rfl
@[simp] theorem sampleChannels_vout (s : State) : (sampleChannels s).vout = sampleVoltage s.cfg.calVout s.vout := rfl
@[simp] theorem sampleChannels_iout (s : State) : (sampleChannels s).iout = sampleCurrent s.cfg.calIout s.iout := rfl
@[simp] theorem sampleChannels_vadj (s : State) : (sampleChannels s).vadj = s.vadj := rfl
@[simp] theorem sampleChannels_vadjAvg (s : State) : (sampleChannels s).vadjAvg = s.vadjAvg := rfl
@[simp] theorem sampleChannels_ctl (s : State) : (sampleChannels s).ctl = s.ctl := rfl
@[simp] theorem sampleChannels_params (s : State) : (sampleChannels s).params = s.params := rfl
@[simp] theorem sampleChannels_geo (s : State) : (sampleChannels s).geo = s.geo := rfl
@[simp] theorem sampleChannels_out (s : State) : (sampleChannels s).out = s.out := rfl
@[simp] theorem sampleChannels_state (s : State) : (sampleChannels s).state = s.state := rfl
@[simp] theorem sampleChannels_mode (s : State) : (sampleChannels s).mode = s.mode := rfl
@[simp] theorem sampleChannels_outEn (s : State) : (sampleChannels s).outEn = s.outEn := rfl
@[simp] theorem sampleChannels_fault (s : State) : (sampleChannels s).fault = s.fault := rfl
@[simp] theorem sampleChannels_flagsNow (s : State) : (sampleChannels s).flagsNow = s.flagsNow := rfl
@[simp] theorem sampleChannels_mapErr (s : State) : (sampleChannels s).mapErr = s.mapErr := rfl
@[simp] theorem sampleChannels_cmdErr (s : State) : (sampleChannels s).cmdErr = s.cmdErr := rfl
@[simp] theorem sampleChannels_uSat (s : State) : (sampleChannels s).uSat = s.uSat := rfl
@[simp] theorem sampleChannels_pend (s : State) : (sampleChannels s).pend = s.pend := rfl
@[simp] theorem sampleChannels_evt (s : State) : (sampleChannels s).evt = s.evt := rfl
@[simp] theorem sampleChannels_ramp (s : State) : (sampleChannels s).ramp = s.ramp := rfl
@[simp] theorem sampleChannels_riseCnt (s : State) : (sampleChannels s).riseCnt = s.riseCnt := rfl
@[simp] theorem sampleChannels_dutyAct (s : State) : (sampleChannels s).dutyAct = s.dutyAct := rfl
@[simp] theorem sampleChannels_stg (s : State) : (sampleChannels s).stg = s.stg := rfl
@[simp] theorem sampleChannels_rdata (s : State) : (sampleChannels s).rdata = s.rdata := rfl
@[simp] theorem sampleChannels_adc (s : State) : (sampleChannels s).adc = s.adc := rfl
@[simp] theorem sampleChannels_tickInit (s : State) : (sampleChannels s).tickInit = s.tickInit := rfl
@[simp] theorem sampleChannels_inbox (s : State) : (sampleChannels s).inbox = s.inbox := rfl
@[simp] theorem sampleChannels_choices (s : State) : (sampleChannels s).choices = s.choices := rfl

/-! `runLaw` -/

@[simp] theorem runLaw_cfg (s : State) : (runLaw s).cfg = s.cfg := rfl
@[simp] theorem runLaw_vin (s : State) : (runLaw s).vin = s.vin := rfl
@[simp] theorem runLaw_iin (s : State) : (runLaw s).iin = s.iin := rfl
@[simp] theorem runLaw_vout (s : State) : (runLaw s).vout = s.vout := rfl
@[simp] theorem runLaw_iout (s : State) : (runLaw s).iout = s.iout := rfl
@[simp] theorem runLaw_vadj (s : State) : (runLaw s).vadj = s.vadj := rfl
@[simp] theorem runLaw_vadjAvg (s : State) : (runLaw s).vadjAvg = s.vadjAvg := rfl
@[simp] theorem runLaw_ctl (s : State) : (runLaw s).ctl = { err1 := word (ctrlError s), err2 := s.ctl.err1, u1 := word (ctrlOut s), buckDuty := word (ctrlDuty s) } := rfl
@[simp] theorem runLaw_params (s : State) : (runLaw s).params = s.params := rfl
@[simp] theorem runLaw_geo (s : State) : (runLaw s).geo = s.geo := rfl
@[simp] theorem runLaw_out (s : State) : (runLaw s).out = s.out := rfl
@[simp] theorem runLaw_state (s : State) : (runLaw s).state = s.state := rfl
@[simp] theorem runLaw_mode (s : State) : (runLaw s).mode = s.mode := rfl
@[simp] theorem runLaw_outEn (s : State) : (runLaw s).outEn = s.outEn := rfl
@[simp] theorem runLaw_fault (s : State) : (runLaw s).fault = s.fault := rfl
@[simp] theorem runLaw_flagsNow (s : State) : (runLaw s).flagsNow = s.flagsNow := rfl
@[simp] theorem runLaw_mapErr (s : State) : (runLaw s).mapErr = s.mapErr := rfl
@[simp] theorem runLaw_cmdErr (s : State) : (runLaw s).cmdErr = s.cmdErr := rfl
@[simp] theorem runLaw_uSat (s : State) : (runLaw s).uSat = (s.uSat || decide (ctrlOut s ≠ ctrlSum s)) := rfl
@[simp] theorem runLaw_pend (s : State) : (runLaw s).pend = s.pend := rfl
@[simp] theorem runLaw_evt (s : State) : (runLaw s).evt = s.evt := rfl
@[simp] theorem runLaw_ramp (s : State) : (runLaw s).ramp = s.ramp := rfl
@[simp] theorem runLaw_riseCnt (s : State) : (runLaw s).riseCnt = s.riseCnt := rfl
@[simp] theorem runLaw_dutyAct (s : State) : (runLaw s).dutyAct = s.dutyAct := rfl
@[simp] theorem runLaw_stg (s : State) : (runLaw s).stg = s.stg := rfl
@[simp] theorem runLaw_rdata (s : State) : (runLaw s).rdata = s.rdata := rfl
@[simp] theorem runLaw_adc (s : State) : (runLaw s).adc = s.adc := rfl
@[simp] theorem runLaw_tickInit (s : State) : (runLaw s).tickInit = s.tickInit := rfl
@[simp] theorem runLaw_inbox (s : State) : (runLaw s).inbox = s.inbox := rfl
@[simp] theorem runLaw_choices (s : State) : (runLaw s).choices = s.choices := rfl

/-! `latchFault` -/

@[simp] theorem latchFault_cfg (s : State) : (latchFault s).cfg = s.cfg := rfl
@[simp] theorem latchFault_vin (s : State) : (latchFault s).vin = s.vin := rfl
@[simp] theorem latchFault_iin (s : State) : (latchFault s).iin = s.iin := rfl
@[simp] theorem latchFault_vout (s : State) : (latchFault s).vout = s.vout := rfl
@[simp] theorem latchFault_iout (s : State) : (latchFault s).iout = s.iout := rfl
@[simp] theorem latchFault_vadj (s : State) : (latchFault s).vadj = s.vadj := rfl
@[simp] theorem latchFault_vadjAvg (s : State) : (latchFault s).vadjAvg = s.vadjAvg := rfl
@[simp] theorem latchFault_ctl (s : State) : (latchFault s).ctl = s.ctl := rfl
@[simp] theorem latchFault_params (s : State) : (latchFault s).params = s.params := rfl
@[simp] theorem latchFault_geo (s : State) : (latchFault s).geo = s.geo := rfl
@[simp] theorem latchFault_out (s : State) : (latchFault s).out = s.out := rfl
@[simp] theorem latchFault_state (s : State) : (latchFault s).state = s.state := rfl
@[simp] theorem latchFault_mode (s : State) : (latchFault s).mode = s.mode := rfl
@[simp] theorem latchFault_outEn (s : State) : (latchFault s).outEn = s.outEn := rfl
@[simp] theorem latchFault_fault (s : State) : (latchFault s).fault = s.fault ||| s.flagsNow := rfl
@[simp] theorem latchFault_flagsNow (s : State) : (latchFault s).flagsNow = s.flagsNow := rfl
@[simp] theorem latchFault_mapErr (s : State) : (latchFault s).mapErr = s.mapErr := rfl
@[simp] theorem latchFault_cmdErr (s : State) : (latchFault s).cmdErr = s.cmdErr := rfl
@[simp] theorem latchFault_uSat (s : State) : (latchFault s).uSat = s.uSat := rfl
@[simp] theorem latchFault_pend (s : State) : (latchFault s).pend = s.pend := rfl
@[simp] theorem latchFault_evt (s : State) : (latchFault s).evt = s.evt := rfl
@[simp] theorem latchFault_ramp (s : State) : (latchFault s).ramp = s.ramp := rfl
@[simp] theorem latchFault_riseCnt (s : State) : (latchFault s).riseCnt = s.riseCnt := rfl
@[simp] theorem latchFault_dutyAct (s : State) : (latchFault s).dutyAct = s.dutyAct := rfl
@[simp] theorem latchFault_stg (s : State) : (latchFault s).stg = s.stg := rfl
@[simp] theorem latchFault_rdata (s : State) : (latchFault s).rdata = s.rdata := rfl
@[simp] theorem latchFault_adc (s : State) : (latchFault s).adc = s.adc := rfl
@[simp] theorem latchFault_tickInit (s : State) : (latchFault s).tickInit = s.tickInit := rfl
@[simp] theorem latchFault_inbox (s : State) : (latchFault s).inbox = s.inbox := rfl
@[simp] theorem latchFault_choices (s : State) : (latchFault s).choices = s.choices := rfl

/-! `enterRise` -/

@[simp] theorem enterRise_cfg (s : State) : (enterRise s).cfg = s.cfg := rfl
@[simp] theorem enterRise_vin (s : State) : (enterRise s).vin = s.vin := rfl
@[simp] theorem enterRise_iin (s : State) : (enterRise s).iin = s.iin := rfl
@[simp] theorem enterRise_vout (s : State) : (enterRise s).vout = s.vout := rfl
@[simp] theorem enterRise_iout (s : State) : (enterRise s).iout = s.iout := rfl
@[simp] theorem enterRise_vadj (s : State) : (enterRise s).vadj = s.vadj := rfl
@[simp] theorem enterRise_vadjAvg (s : State) : (enterRise s).vadjAvg = s.vadjAvg := rfl
@[simp] theorem enterRise_ctl (s : State) : (enterRise s).ctl = s.ctl := rfl
@[simp] theorem enterRise_params (s : State) : (enterRise s).params = s.params := rfl
@[simp] theorem enterRise_geo (s : State) : (enterRise s).geo = s.geo := rfl
@[simp] theorem enterRise_out (s : State) : (enterRise s).out = s.out := rfl
@[simp] theorem enterRise_state (s : State) : (enterRise s).state = .rise := rfl
@[simp] theorem enterRise_mode (s : State) : (enterRise s).mode = s.mode := rfl
@[simp] theorem enterRise_outEn (s : State) : (enterRise s).outEn = true := rfl
@[simp] theorem enterRise_fault (s : State) : (enterRise s).fault = s.fault := rfl
@[simp] theorem enterRise_flagsNow (s : State) : (enterRise s).flagsNow = s.flagsNow := rfl
@[simp] theorem enterRise_mapErr (s : State) : (enterRise s).mapErr = s.mapErr := rfl
@[simp] theorem enterRise_cmdErr (s : State) : (enterRise s).cmdErr = s.cmdErr := rfl
@[simp] theorem enterRise_uSat (s : State) : (enterRise s).uSat = s.uSat := rfl
@[simp] theorem enterRise_pend (s : State) : (enterRise s).pend = s.pend := rfl
@[simp] theorem enterRise_evt (s : State) : (enterRise s).evt = s.evt := rfl
@[simp] theorem enterRise_ramp (s : State) : (enterRise s).ramp = word s.cfg.minBuckDuty := rfl
@[simp] theorem enterRise_riseCnt (s : State) : (enterRise s).riseCnt = 0 := rfl
@[simp] theorem enterRise_dutyAct (s : State) : (enterRise s).dutyAct = s.dutyAct := rfl
@[simp] theorem enterRise_stg (s : State) : (enterRise s).stg = s.stg := rfl
@[simp] theorem enterRise_rdata (s : State) : (enterRise s).rdata = s.rdata := rfl
@[simp] theorem enterRise_adc (s : State) : (enterRise s).adc = s.adc := rfl
@[simp] theorem enterRise_tickInit (s : State) : (enterRise s).tickInit = s.tickInit := rfl
@[simp] theorem enterRise_inbox (s : State) : (enterRise s).inbox = s.inbox := rfl
@[simp] theorem enterRise_choices (s : State) : (enterRise s).choices = s.choices := rfl

/-! `stepPeriod` -/

@[simp] theorem stepPeriod_cfg (delta : Int) (s : State) : (stepPeriod delta s).cfg = s.cfg := rfl
@[simp] theorem stepPeriod_vin (delta : Int) (s : State) : (stepPeriod delta s).vin = s.vin := rfl
@[simp] theorem stepPeriod_iin (delta : Int) (s : State) : (stepPeriod delta s).iin = s.iin := rfl
@[simp] theorem stepPeriod_vout (delta : Int) (s : State) : (stepPeriod delta s).vout = s.vout := rfl
@[simp] theorem stepPeriod_iout (delta : Int) (s : State) : (stepPeriod delta s).iout = s.iout := rfl
@[simp] theorem stepPeriod_vadj (delta : Int) (s : State) : (stepPeriod delta s).vadj = s.vadj := rfl
@[simp] theorem stepPeriod_vadjAvg (delta : Int) (s : State) : (stepPeriod delta s).vadjAvg = s.vadjAvg := rfl
@[simp] theorem stepPeriod_ctl (delta : Int) (s : State) : (stepPeriod delta s).ctl = s.ctl := rfl
@[simp] theorem stepPeriod_params (delta : Int) (s : State) : (stepPeriod delta s).params = s.params := rfl
@[simp] theorem stepPeriod_geo (delta : Int) (s : State) : (stepPeriod delta s).geo = { s.geo with period := word (clamp (uval s.geo.period + delta) s.cfg.periodMin s.cfg.periodMax) } := rfl
@[simp] theorem stepPeriod_out (delta : Int) (s : State) : (stepPeriod delta s).out = s.out := rfl
@[simp] theorem stepPeriod_state (delta : Int) (s : State) : (stepPeriod delta s).state = s.state := rfl
@[simp] theorem stepPeriod_mode (delta : Int) (s : State) : (stepPeriod delta s).mode = s.mode := rfl
@[simp] theorem stepPeriod_outEn (delta : Int) (s : State) : (stepPeriod delta s).outEn = s.outEn := rfl
@[simp] theorem stepPeriod_fault (delta : Int) (s : State) : (stepPeriod delta s).fault = s.fault := rfl
@[simp] theorem stepPeriod_flagsNow (delta : Int) (s : State) : (stepPeriod delta s).flagsNow = s.flagsNow := rfl
@[simp] theorem stepPeriod_mapErr (delta : Int) (s : State) : (stepPeriod delta s).mapErr = s.mapErr := rfl
@[simp] theorem stepPeriod_cmdErr (delta : Int) (s : State) : (stepPeriod delta s).cmdErr = s.cmdErr := rfl
@[simp] theorem stepPeriod_uSat (delta : Int) (s : State) : (stepPeriod delta s).uSat = s.uSat := rfl
@[simp] theorem stepPeriod_pend (delta : Int) (s : State) : (stepPeriod delta s).pend = s.pend := rfl
@[simp] theorem stepPeriod_evt (delta : Int) (s : State) : (stepPeriod delta s).evt = s.evt := rfl
@[simp] theorem stepPeriod_ramp (delta : Int) (s : State) : (stepPeriod delta s).ramp = s.ramp := rfl
@[simp] theorem stepPeriod_riseCnt (delta : Int) (s : State) : (stepPeriod delta s).riseCnt = s.riseCnt := rfl
@[simp] theorem stepPeriod_dutyAct (delta : Int) (s : State) : (stepPeriod delta s).dutyAct = s.dutyAct := rfl
@[simp] theorem stepPeriod_stg (delta : Int) (s : State) : (stepPeriod delta s).stg = s.stg := rfl
@[simp] theorem stepPeriod_rdata (delta : Int) (s : State) : (stepPeriod delta s).rdata = s.rdata := rfl
@[simp] theorem stepPeriod_adc (delta : Int) (s : State) : (stepPeriod delta s).adc = s.adc := rfl
@[simp] theorem stepPeriod_tickInit (delta : Int) (s : State) : (stepPeriod delta s).tickInit = s.tickInit := rfl
@[simp] theorem stepPeriod_inbox (delta : Int) (s : State) : (stepPeriod delta s).inbox = s.inbox := rfl
@[simp] theorem stepPeriod_choices (delta : Int) (s : State) : (stepPeriod delta s).choices = s.choices := rfl

/-! `stepDuty` -/

@[simp] theorem stepDuty_cfg (delta : Int) (s : State) : (stepDuty delta s).cfg = s.cfg := rfl
@[simp] theorem stepDuty_vin (delta : Int) (s : State) : (stepDuty delta s).vin = s.vin := rfl
@[simp] theorem stepDuty_iin (delta : Int) (s : State) : (stepDuty delta s).iin = s.iin := rfl
@[simp] theorem stepDuty_vout (delta : Int) (s : State) : (stepDuty delta s).vout = s.vout := rfl
@[simp] theorem stepDuty_iout (delta : Int) (s : State) : (stepDuty delta s).iout = s.iout := rfl
@[simp] theorem stepDuty_vadj (delta : Int) (s : State) : (stepDuty delta s).vadj = s.vadj := rfl
@[simp] theorem stepDuty_vadjAvg (delta : Int) (s : State) : (stepDuty delta s).vadjAvg = s.vadjAvg := rfl
@[simp] theorem stepDuty_ctl (delta : Int) (s : State) : (stepDuty delta s).ctl = s.ctl := rfl
@[simp] theorem stepDuty_params (delta : Int) (s : State) : (stepDuty delta s).params = s.params := rfl
@[simp] theorem stepDuty_geo (delta : Int) (s : State) : (stepDuty delta s).geo = { s.geo with duty := word (clamp (uval s.geo.duty + delta) s.cfg.dutyMin s.cfg.dutyMax) } := rfl
@[simp] theorem stepDuty_out (delta : Int) (s : State) : (stepDuty delta s).out = s.out := rfl
@[simp] theorem stepDuty_state (delta : Int) (s : State) : (stepDuty delta s).state = s.state := rfl
@[simp] theorem stepDuty_mode (delta : Int) (s : State) : (stepDuty delta s).mode = s.mode := rfl
@[simp] theorem stepDuty_outEn (delta : Int) (s : State) : (stepDuty delta s).outEn = s.outEn := rfl
@[simp] theorem stepDuty_fault (delta : Int) (s : State) : (stepDuty delta s).fault = s.fault := rfl
@[simp] theorem stepDuty_flagsNow (delta : Int) (s : State) : (stepDuty delta s).flagsNow = s.flagsNow := rfl
@[simp] theorem stepDuty_mapErr (delta : Int) (s : State) : (stepDuty delta s).mapErr = s.mapErr := rfl
@[simp] theorem stepDuty_cmdErr (delta : Int) (s : State) : (stepDuty delta s).cmdErr = s.cmdErr := rfl
@[simp] theorem stepDuty_uSat (delta : Int) (s : State) : (stepDuty delta s).uSat = s.uSat := rfl
@[simp] theorem stepDuty_pend (delta : Int) (s : State) : (stepDuty delta s).pend = s.pend := rfl
@[simp] theorem stepDuty_evt (delta : Int) (s : State) : (stepDuty delta s).evt = s.evt := rfl
@[simp] theorem stepDuty_ramp (delta : Int) (s : State) : (stepDuty delta s).ramp = s.ramp := rfl
@[simp] theorem stepDuty_riseCnt (delta : Int) (s : State) : (stepDuty delta s).riseCnt = s.riseCnt := rfl
@[simp] theorem stepDuty_dutyAct (delta : Int) (s : State) : (stepDuty delta s).dutyAct = s.dutyAct := rfl
@[simp] theorem stepDuty_stg (delta : Int) (s : State) : (stepDuty delta s).stg = s.stg := rfl
@[simp] theorem stepDuty_rdata (delta : Int) (s : State) : (stepDuty delta s).rdata = s.rdata := rfl
@[simp] theorem stepDuty_adc (delta : Int) (s : State) : (stepDuty delta s).adc = s.adc := rfl
@[simp] theorem stepDuty_tickInit (delta : Int) (s : State) : (stepDuty delta s).tickInit = s.tickInit := rfl
@[simp] theorem stepDuty_inbox (delta : Int) (s : State) : (stepDuty delta s).inbox = s.inbox := rfl
@[simp] theorem stepDuty_choices (delta : Int) (s : State) : (stepDuty delta s).choices = s.choices := rfl

/-! `stepDead` -/

@[simp] theorem stepDead_cfg (delta : Int) (s : State) : (stepDead delta s).cfg = s.cfg := rfl
@[simp] theorem stepDead_vin (delta : Int) (s : State) : (stepDead delta s).vin = s.vin := rfl
@[simp] theorem stepDead_iin (delta : Int) (s : State) : (stepDead delta s).iin = s.iin := rfl
@[simp] theorem stepDead_vout (delta : Int) (s : State) : (stepDead delta s).vout = s.vout := rfl
@[simp] theorem stepDead_iout (delta : Int) (s : State) : (stepDead delta s).iout = s.iout := rfl
@[simp] theorem stepDead_vadj (delta : Int) (s : State) : (stepDead delta s).vadj = s.vadj := rfl
@[simp] theorem stepDead_vadjAvg (delta : Int) (s : State) : (stepDead delta s).vadjAvg = s.vadjAvg := rfl
@[simp] theorem stepDead_ctl (delta : Int) (s : State) : (stepDead delta s).ctl = s.ctl := rfl
@[simp] theorem stepDead_params (delta : Int) (s : State) : (stepDead delta s).params = s.params := rfl
@[simp] theorem stepDead_geo (delta : Int) (s : State) : (stepDead delta s).geo = { s.geo with dead := word (clamp (uval s.geo.dead + delta) s.cfg.deadMin s.cfg.deadMax) } := rfl
@[simp] theorem stepDead_out (delta : Int) (s : State) : (stepDead delta s).out = s.out := rfl
@[simp] theorem stepDead_state (delta : Int) (s : State) : (stepDead delta s).state = s.state := rfl
@[simp] theorem stepDead_mode (delta : Int) (s : State) : (stepDead delta s).mode = s.mode := rfl
@[simp] theorem stepDead_outEn (delta : Int) (s : State) : (stepDead delta s).outEn = s.outEn := rfl
@[simp] theorem stepDead_fault (delta : Int) (s : State) : (stepDead delta s).fault = s.fault := rfl
@[simp] theorem stepDead_flagsNow (delta : Int) (s : State) : (stepDead delta s).flagsNow = s.flagsNow := rfl
@[simp] theorem stepDead_mapErr (delta : Int) (s : State) : (stepDead delta s).mapErr = s.mapErr := rfl
@[simp] theorem stepDead_cmdErr (delta : Int) (s : State) : (stepDead delta s).cmdErr = s.cmdErr := rfl
@[simp] theorem stepDead_uSat (delta : Int) (s : State) : (stepDead delta s).uSat = s.uSat := rfl
@[simp] theorem stepDead_pend (delta : Int) (s : State) : (stepDead delta s).pend = s.pend := rfl
@[simp] theorem stepDead_evt (delta : Int) (s : State) : (stepDead delta s).evt = s.evt := rfl
@[simp] theorem stepDead_ramp (delta : Int) (s : State) : (stepDead delta s).ramp = s.ramp := rfl
@[simp] theorem stepDead_riseCnt (delta : Int) (s : State) : (stepDead delta s).riseCnt = s.riseCnt := rfl
@[simp] theorem stepDead_dutyAct (delta : Int) (s : State) : (stepDead delta s).dutyAct = s.dutyAct := rfl
@[simp] theorem stepDead_stg (delta : Int) (s : State) : (stepDead delta s).stg = s.stg := rfl
@[simp] theorem stepDead_rdata (delta : Int) (s : State) : (stepDead delta s).rdata = s.rdata := rfl
@[simp] theorem stepDead_adc (delta : Int) (s : State) : (stepDead delta s).adc = s.adc := rfl
@[simp] theorem stepDead_tickInit (delta : Int) (s : State) : (stepDead delta s).tickInit = s.tickInit := rfl
@[simp] theorem stepDead_inbox (delta : Int) (s : State) : (stepDead delta s).inbox = s.inbox := rfl
@[simp] theorem stepDead_choices (delta : Int) (s : State) : (stepDead delta s).choices = s.choices := rfl

/-! `rampStep` -/

@[simp] theorem rampStep_cfg (s : State) : (rampStep s).cfg = s.cfg := rfl
@[simp] theorem rampStep_vin (s : State) : (rampStep s).vin = s.vin := rfl
@[simp] theorem rampStep_iin (s : State) : (rampStep s).iin = s.iin := rfl
@[simp] theorem rampStep_vout (s : State) : (rampStep s).vout = s.vout := rfl
@[simp] theorem rampStep_iout (s : State) : (rampStep s).iout = s.iout := rfl
@[simp] theorem rampStep_vadj (s : State) : (rampStep s).vadj = s.vadj := rfl
@[simp] theorem rampStep_vadjAvg (s : State) : (rampStep s).vadjAvg = s.vadjAvg := rfl
@[simp] theorem rampStep_ctl (s : State) : (rampStep s).ctl = s.ctl := rfl
@[simp] theorem rampStep_params (s : State) : (rampStep s).params = s.params := rfl
@[simp] theorem rampStep_geo (s : State) : (rampStep s).geo = s.geo := rfl
@[simp] theorem rampStep_out (s : State) : (rampStep s).out = s.out := rfl
@[simp] theorem rampStep_state (s : State) : (rampStep s).state = if rampDone s then .run else s.state := rfl
@[simp] theorem rampStep_mode (s : State) : (rampStep s).mode = s.mode := rfl
@[simp] theorem rampStep_outEn (s : State) : (rampStep s).outEn = s.outEn := rfl
@[simp] theorem rampStep_fault (s : State) : (rampStep s).fault = s.fault := rfl
@[simp] theorem rampStep_flagsNow (s : State) : (rampStep s).flagsNow = s.flagsNow := rfl
@[simp] theorem rampStep_mapErr (s : State) : (rampStep s).mapErr = s.mapErr := rfl
@[simp] theorem rampStep_cmdErr (s : State) : (rampStep s).cmdErr = s.cmdErr := rfl
@[simp] theorem rampStep_uSat (s : State) : (rampStep s).uSat = s.uSat := rfl
@[simp] theorem rampStep_pend (s : State) : (rampStep s).pend = s.pend := rfl
@[simp] theorem rampStep_evt (s : State) : (rampStep s).evt = s.evt := rfl
@[simp] theorem rampStep_ramp (s : State) : (rampStep s).ramp = nextRamp s := rfl
@[simp] theorem rampStep_riseCnt (s : State) : (rampStep s).riseCnt = nextRiseCnt s := rfl
@[simp] theorem rampStep_dutyAct (s : State) : (rampStep s).dutyAct = s.dutyAct := rfl
@[simp] theorem rampStep_stg (s : State) : (rampStep s).stg = s.stg := rfl
@[simp] theorem rampStep_rdata (s : State) : (rampStep s).rdata = s.rdata := rfl
@[simp] theorem rampStep_adc (s : State) : (rampStep s).adc = s.adc := rfl
@[simp] theorem rampStep_tickInit (s : State) : (rampStep s).tickInit = s.tickInit := rfl
@[simp] theorem rampStep_inbox (s : State) : (rampStep s).inbox = s.inbox := rfl
@[simp] theorem rampStep_choices (s : State) : (rampStep s).choices = s.choices := rfl

/-! `selectDuty` -/

@[simp] theorem selectDuty_cfg (s : State) : (selectDuty s).cfg = s.cfg := rfl
@[simp] theorem selectDuty_vin (s : State) : (selectDuty s).vin = s.vin := rfl
@[simp] theorem selectDuty_iin (s : State) : (selectDuty s).iin = s.iin := rfl
@[simp] theorem selectDuty_vout (s : State) : (selectDuty s).vout = s.vout := rfl
@[simp] theorem selectDuty_iout (s : State) : (selectDuty s).iout = s.iout := rfl
@[simp] theorem selectDuty_vadj (s : State) : (selectDuty s).vadj = s.vadj := rfl
@[simp] theorem selectDuty_vadjAvg (s : State) : (selectDuty s).vadjAvg = s.vadjAvg := rfl
@[simp] theorem selectDuty_ctl (s : State) : (selectDuty s).ctl = s.ctl := rfl
@[simp] theorem selectDuty_params (s : State) : (selectDuty s).params = s.params := rfl
@[simp] theorem selectDuty_geo (s : State) : (selectDuty s).geo = s.geo := rfl
@[simp] theorem selectDuty_out (s : State) : (selectDuty s).out = s.out := rfl
@[simp] theorem selectDuty_state (s : State) : (selectDuty s).state = s.state := rfl
@[simp] theorem selectDuty_mode (s : State) : (selectDuty s).mode = s.mode := rfl
@[simp] theorem selectDuty_outEn (s : State) : (selectDuty s).outEn = s.outEn := rfl
@[simp] theorem selectDuty_fault (s : State) : (selectDuty s).fault = s.fault := rfl
@[simp] theorem selectDuty_flagsNow (s : State) : (selectDuty s).flagsNow = s.flagsNow := rfl
@[simp] theorem selectDuty_mapErr (s : State) : (selectDuty s).mapErr = s.mapErr := rfl
@[simp] theorem selectDuty_cmdErr (s : State) : (selectDuty s).cmdErr = s.cmdErr := rfl
@[simp] theorem selectDuty_uSat (s : State) : (selectDuty s).uSat = s.uSat := rfl
@[simp] theorem selectDuty_pend (s : State) : (selectDuty s).pend = s.pend := rfl
@[simp] theorem selectDuty_evt (s : State) : (selectDuty s).evt = s.evt := rfl
@[simp] theorem selectDuty_ramp (s : State) : (selectDuty s).ramp = s.ramp := rfl
@[simp] theorem selectDuty_riseCnt (s : State) : (selectDuty s).riseCnt = s.riseCnt := rfl
@[simp] theorem selectDuty_dutyAct (s : State) : (selectDuty s).dutyAct = activeDuty s := rfl
@[simp] theorem selectDuty_stg (s : State) : (selectDuty s).stg = s.stg := rfl
@[simp] theorem selectDuty_rdata (s : State) : (selectDuty s).rdata = s.rdata := rfl
@[simp] theorem selectDuty_adc (s : State) : (selectDuty s).adc = s.adc := rfl
@[simp] theorem selectDuty_tickInit (s : State) : (selectDuty s).tickInit = s.tickInit := rfl
@[simp] theorem selectDuty_inbox (s : State) : (selectDuty s).inbox = s.inbox := rfl
@[simp] theorem selectDuty_choices (s : State) : (selectDuty s).choices = s.choices := rfl

/-! `postEvent` -/

@[simp] theorem postEvent_cfg (e : Event) (s : State) : (postEvent e s).cfg = s.cfg := rfl
@[simp] theorem postEvent_vin (e : Event) (s : State) : (postEvent e s).vin = s.vin := rfl
@[simp] theorem postEvent_iin (e : Event) (s : State) : (postEvent e s).iin = s.iin := rfl
@[simp] theorem postEvent_vout (e : Event) (s : State) : (postEvent e s).vout = s.vout := rfl
@[simp] theorem postEvent_iout (e : Event) (s : State) : (postEvent e s).iout = s.iout := rfl
@[simp] theorem postEvent_vadj (e : Event) (s : State) : (postEvent e s).vadj = s.vadj := rfl
@[simp] theorem postEvent_vadjAvg (e : Event) (s : State) : (postEvent e s).vadjAvg = s.vadjAvg := rfl
@[simp] theorem postEvent_ctl (e : Event) (s : State) : (postEvent e s).ctl = s.ctl := rfl
@[simp] theorem postEvent_params (e : Event) (s : State) : (postEvent e s).params = s.params := rfl
@[simp] theorem postEvent_geo (e : Event) (s : State) : (postEvent e s).geo = s.geo := rfl
@[simp] theorem postEvent_out (e : Event) (s : State) : (postEvent e s).out = s.out := rfl
@[simp] theorem postEvent_state (e : Event) (s : State) : (postEvent e s).state = s.state := rfl
@[simp] theorem postEvent_mode (e : Event) (s : State) : (postEvent e s).mode = s.mode := rfl
@[simp] theorem postEvent_outEn (e : Event) (s : State) : (postEvent e s).outEn = s.outEn := rfl
@[simp] theorem postEvent_fault (e : Event) (s : State) : (postEvent e s).fault = s.fault := rfl
@[simp] theorem postEvent_flagsNow (e : Event) (s : State) : (postEvent e s).flagsNow = s.flagsNow := rfl
@[simp] theorem postEvent_mapErr (e : Event) (s : State) : (postEvent e s).mapErr = s.mapErr := rfl
@[simp] theorem postEvent_cmdErr (e : Event) (s : State) : (postEvent e s).cmdErr = s.cmdErr := rfl
@[simp] theorem postEvent_uSat (e : Event) (s : State) : (postEvent e s).uSat = s.uSat := rfl
@[simp] theorem postEvent_pend (e : Event) (s : State) : (postEvent e s).pend = s.pend ||| eventBit e := rfl
@[simp] theorem postEvent_evt (e : Event) (s : State) : (postEvent e s).evt = s.evt := rfl
@[simp] theorem postEvent_ramp (e : Event) (s : State) : (postEvent e s).ramp = s.ramp := rfl
@[simp] theorem postEvent_riseCnt (e : Event) (s : State) : (postEvent e s).riseCnt = s.riseCnt := rfl
@[simp] theorem postEvent_dutyAct (e : Event) (s : State) : (postEvent e s).dutyAct = s.dutyAct := rfl
@[simp] theorem postEvent_stg (e : Event) (s : State) : (postEvent e s).stg = s.stg := rfl
@[simp] theorem postEvent_rdata (e : Event) (s : State) : (postEvent e s).rdata = s.rdata := rfl
@[simp] theorem postEvent_adc (e : Event) (s : State) : (postEvent e s).adc = s.adc := rfl
@[simp] theorem postEvent_tickInit (e : Event) (s : State) : (postEvent e s).tickInit = s.tickInit := rfl
@[simp] theorem postEvent_inbox (e : Event) (s : State) : (postEvent e s).inbox = s.inbox := rfl
@[simp] theorem postEvent_choices (e : Event) (s : State) : (postEvent e s).choices = s.choices := rfl


end Sys2Proof.Machine
end

