-- ==== Sys2Proof/Laws/Frames.lean ====
section
/-! SUPPORT. The fields that each conditional operation and each stage never writes, one lemma per field. -/

namespace Sys2Proof.Machine

/-! `sampleStage` -/

@[simp] theorem sampleStage_cfg (s : State) : (sampleStage s).cfg = s.cfg := by
  unfold sampleStage; split <;> rfl
@[simp] theorem sampleStage_vadj (s : State) : (sampleStage s).vadj = s.vadj := by
  unfold sampleStage; split <;> rfl
@[simp] theorem sampleStage_vadjAvg (s : State) : (sampleStage s).vadjAvg = s.vadjAvg := by
  unfold sampleStage; split <;> rfl
@[simp] theorem sampleStage_ctl (s : State) : (sampleStage s).ctl = s.ctl := by
  unfold sampleStage; split <;> rfl
@[simp] theorem sampleStage_params (s : State) : (sampleStage s).params = s.params := by
  unfold sampleStage; split <;> rfl
@[simp] theorem sampleStage_geo (s : State) : (sampleStage s).geo = s.geo := by
  unfold sampleStage; split <;> rfl
@[simp] theorem sampleStage_out (s : State) : (sampleStage s).out = s.out := by
  unfold sampleStage; split <;> rfl
@[simp] theorem sampleStage_state (s : State) : (sampleStage s).state = s.state := by
  unfold sampleStage; split <;> rfl
@[simp] theorem sampleStage_mode (s : State) : (sampleStage s).mode = s.mode := by
  unfold sampleStage; split <;> rfl
@[simp] theorem sampleStage_outEn (s : State) : (sampleStage s).outEn = s.outEn := by
  unfold sampleStage; split <;> rfl
@[simp] theorem sampleStage_fault (s : State) : (sampleStage s).fault = s.fault := by
  unfold sampleStage; split <;> rfl
@[simp] theorem sampleStage_flagsNow (s : State) : (sampleStage s).flagsNow = s.flagsNow := by
  unfold sampleStage; split <;> rfl
@[simp] theorem sampleStage_mapErr (s : State) : (sampleStage s).mapErr = s.mapErr := by
  unfold sampleStage; split <;> rfl
@[simp] theorem sampleStage_cmdErr (s : State) : (sampleStage s).cmdErr = s.cmdErr := by
  unfold sampleStage; split <;> rfl
@[simp] theorem sampleStage_uSat (s : State) : (sampleStage s).uSat = s.uSat := by
  unfold sampleStage; split <;> rfl
@[simp] theorem sampleStage_pend (s : State) : (sampleStage s).pend = s.pend := by
  unfold sampleStage; split <;> rfl
@[simp] theorem sampleStage_evt (s : State) : (sampleStage s).evt = s.evt := by
  unfold sampleStage; split <;> rfl
@[simp] theorem sampleStage_ramp (s : State) : (sampleStage s).ramp = s.ramp := by
  unfold sampleStage; split <;> rfl
@[simp] theorem sampleStage_riseCnt (s : State) : (sampleStage s).riseCnt = s.riseCnt := by
  unfold sampleStage; split <;> rfl
@[simp] theorem sampleStage_dutyAct (s : State) : (sampleStage s).dutyAct = s.dutyAct := by
  unfold sampleStage; split <;> rfl
@[simp] theorem sampleStage_rdata (s : State) : (sampleStage s).rdata = s.rdata := by
  unfold sampleStage; split <;> rfl
@[simp] theorem sampleStage_adc (s : State) : (sampleStage s).adc = s.adc := by
  unfold sampleStage; split <;> rfl
@[simp] theorem sampleStage_tickInit (s : State) : (sampleStage s).tickInit = s.tickInit := by
  unfold sampleStage; split <;> rfl
@[simp] theorem sampleStage_inbox (s : State) : (sampleStage s).inbox = s.inbox := by
  unfold sampleStage; split <;> rfl
@[simp] theorem sampleStage_choices (s : State) : (sampleStage s).choices = s.choices := by
  unfold sampleStage; split <;> rfl

/-! `ctrlStage` -/

@[simp] theorem ctrlStage_cfg (s : State) : (ctrlStage s).cfg = s.cfg := by
  unfold ctrlStage; split <;> rfl
@[simp] theorem ctrlStage_vin (s : State) : (ctrlStage s).vin = s.vin := by
  unfold ctrlStage; split <;> rfl
@[simp] theorem ctrlStage_iin (s : State) : (ctrlStage s).iin = s.iin := by
  unfold ctrlStage; split <;> rfl
@[simp] theorem ctrlStage_vout (s : State) : (ctrlStage s).vout = s.vout := by
  unfold ctrlStage; split <;> rfl
@[simp] theorem ctrlStage_iout (s : State) : (ctrlStage s).iout = s.iout := by
  unfold ctrlStage; split <;> rfl
@[simp] theorem ctrlStage_vadj (s : State) : (ctrlStage s).vadj = s.vadj := by
  unfold ctrlStage; split <;> rfl
@[simp] theorem ctrlStage_vadjAvg (s : State) : (ctrlStage s).vadjAvg = s.vadjAvg := by
  unfold ctrlStage; split <;> rfl
@[simp] theorem ctrlStage_params (s : State) : (ctrlStage s).params = s.params := by
  unfold ctrlStage; split <;> rfl
@[simp] theorem ctrlStage_geo (s : State) : (ctrlStage s).geo = s.geo := by
  unfold ctrlStage; split <;> rfl
@[simp] theorem ctrlStage_out (s : State) : (ctrlStage s).out = s.out := by
  unfold ctrlStage; split <;> rfl
@[simp] theorem ctrlStage_state (s : State) : (ctrlStage s).state = s.state := by
  unfold ctrlStage; split <;> rfl
@[simp] theorem ctrlStage_mode (s : State) : (ctrlStage s).mode = s.mode := by
  unfold ctrlStage; split <;> rfl
@[simp] theorem ctrlStage_outEn (s : State) : (ctrlStage s).outEn = s.outEn := by
  unfold ctrlStage; split <;> rfl
@[simp] theorem ctrlStage_fault (s : State) : (ctrlStage s).fault = s.fault := by
  unfold ctrlStage; split <;> rfl
@[simp] theorem ctrlStage_flagsNow (s : State) : (ctrlStage s).flagsNow = s.flagsNow := by
  unfold ctrlStage; split <;> rfl
@[simp] theorem ctrlStage_mapErr (s : State) : (ctrlStage s).mapErr = s.mapErr := by
  unfold ctrlStage; split <;> rfl
@[simp] theorem ctrlStage_cmdErr (s : State) : (ctrlStage s).cmdErr = s.cmdErr := by
  unfold ctrlStage; split <;> rfl
@[simp] theorem ctrlStage_pend (s : State) : (ctrlStage s).pend = s.pend := by
  unfold ctrlStage; split <;> rfl
@[simp] theorem ctrlStage_evt (s : State) : (ctrlStage s).evt = s.evt := by
  unfold ctrlStage; split <;> rfl
@[simp] theorem ctrlStage_ramp (s : State) : (ctrlStage s).ramp = s.ramp := by
  unfold ctrlStage; split <;> rfl
@[simp] theorem ctrlStage_riseCnt (s : State) : (ctrlStage s).riseCnt = s.riseCnt := by
  unfold ctrlStage; split <;> rfl
@[simp] theorem ctrlStage_dutyAct (s : State) : (ctrlStage s).dutyAct = s.dutyAct := by
  unfold ctrlStage; split <;> rfl
@[simp] theorem ctrlStage_rdata (s : State) : (ctrlStage s).rdata = s.rdata := by
  unfold ctrlStage; split <;> rfl
@[simp] theorem ctrlStage_adc (s : State) : (ctrlStage s).adc = s.adc := by
  unfold ctrlStage; split <;> rfl
@[simp] theorem ctrlStage_tickInit (s : State) : (ctrlStage s).tickInit = s.tickInit := by
  unfold ctrlStage; split <;> rfl
@[simp] theorem ctrlStage_inbox (s : State) : (ctrlStage s).inbox = s.inbox := by
  unfold ctrlStage; split <;> rfl
@[simp] theorem ctrlStage_choices (s : State) : (ctrlStage s).choices = s.choices := by
  unfold ctrlStage; split <;> rfl

/-! `protStage` -/

@[simp] theorem protStage_cfg (s : State) : (protStage s).cfg = s.cfg := by
  unfold protStage; split <;> rfl
@[simp] theorem protStage_vin (s : State) : (protStage s).vin = s.vin := by
  unfold protStage; split <;> rfl
@[simp] theorem protStage_iin (s : State) : (protStage s).iin = s.iin := by
  unfold protStage; split <;> rfl
@[simp] theorem protStage_vout (s : State) : (protStage s).vout = s.vout := by
  unfold protStage; split <;> rfl
@[simp] theorem protStage_iout (s : State) : (protStage s).iout = s.iout := by
  unfold protStage; split <;> rfl
@[simp] theorem protStage_vadj (s : State) : (protStage s).vadj = s.vadj := by
  unfold protStage; split <;> rfl
@[simp] theorem protStage_vadjAvg (s : State) : (protStage s).vadjAvg = s.vadjAvg := by
  unfold protStage; split <;> rfl
@[simp] theorem protStage_ctl (s : State) : (protStage s).ctl = s.ctl := by
  unfold protStage; split <;> rfl
@[simp] theorem protStage_params (s : State) : (protStage s).params = s.params := by
  unfold protStage; split <;> rfl
@[simp] theorem protStage_geo (s : State) : (protStage s).geo = s.geo := by
  unfold protStage; split <;> rfl
@[simp] theorem protStage_out (s : State) : (protStage s).out = s.out := by
  unfold protStage; split <;> rfl
@[simp] theorem protStage_state (s : State) : (protStage s).state = s.state := by
  unfold protStage; split <;> rfl
@[simp] theorem protStage_mode (s : State) : (protStage s).mode = s.mode := by
  unfold protStage; split <;> rfl
@[simp] theorem protStage_outEn (s : State) : (protStage s).outEn = s.outEn := by
  unfold protStage; split <;> rfl
@[simp] theorem protStage_fault (s : State) : (protStage s).fault = s.fault := by
  unfold protStage; split <;> rfl
@[simp] theorem protStage_mapErr (s : State) : (protStage s).mapErr = s.mapErr := by
  unfold protStage; split <;> rfl
@[simp] theorem protStage_cmdErr (s : State) : (protStage s).cmdErr = s.cmdErr := by
  unfold protStage; split <;> rfl
@[simp] theorem protStage_uSat (s : State) : (protStage s).uSat = s.uSat := by
  unfold protStage; split <;> rfl
@[simp] theorem protStage_pend (s : State) : (protStage s).pend = s.pend := by
  unfold protStage; split <;> rfl
@[simp] theorem protStage_evt (s : State) : (protStage s).evt = s.evt := by
  unfold protStage; split <;> rfl
@[simp] theorem protStage_ramp (s : State) : (protStage s).ramp = s.ramp := by
  unfold protStage; split <;> rfl
@[simp] theorem protStage_riseCnt (s : State) : (protStage s).riseCnt = s.riseCnt := by
  unfold protStage; split <;> rfl
@[simp] theorem protStage_dutyAct (s : State) : (protStage s).dutyAct = s.dutyAct := by
  unfold protStage; split <;> rfl
@[simp] theorem protStage_rdata (s : State) : (protStage s).rdata = s.rdata := by
  unfold protStage; split <;> rfl
@[simp] theorem protStage_adc (s : State) : (protStage s).adc = s.adc := by
  unfold protStage; split <;> rfl
@[simp] theorem protStage_tickInit (s : State) : (protStage s).tickInit = s.tickInit := by
  unfold protStage; split <;> rfl
@[simp] theorem protStage_inbox (s : State) : (protStage s).inbox = s.inbox := by
  unfold protStage; split <;> rfl
@[simp] theorem protStage_choices (s : State) : (protStage s).choices = s.choices := by
  unfold protStage; split <;> rfl

/-! `applyMap` -/

@[simp] theorem applyMap_cfg (s : State) : (applyMap s).cfg = s.cfg := by
  unfold applyMap; split <;> rfl
@[simp] theorem applyMap_vin (s : State) : (applyMap s).vin = s.vin := by
  unfold applyMap; split <;> rfl
@[simp] theorem applyMap_iin (s : State) : (applyMap s).iin = s.iin := by
  unfold applyMap; split <;> rfl
@[simp] theorem applyMap_vout (s : State) : (applyMap s).vout = s.vout := by
  unfold applyMap; split <;> rfl
@[simp] theorem applyMap_iout (s : State) : (applyMap s).iout = s.iout := by
  unfold applyMap; split <;> rfl
@[simp] theorem applyMap_vadj (s : State) : (applyMap s).vadj = s.vadj := by
  unfold applyMap; split <;> rfl
@[simp] theorem applyMap_vadjAvg (s : State) : (applyMap s).vadjAvg = s.vadjAvg := by
  unfold applyMap; split <;> rfl
@[simp] theorem applyMap_ctl (s : State) : (applyMap s).ctl = s.ctl := by
  unfold applyMap; split <;> rfl
@[simp] theorem applyMap_params (s : State) : (applyMap s).params = s.params := by
  unfold applyMap; split <;> rfl
@[simp] theorem applyMap_geo (s : State) : (applyMap s).geo = s.geo := by
  unfold applyMap; split <;> rfl
@[simp] theorem applyMap_state (s : State) : (applyMap s).state = s.state := by
  unfold applyMap; split <;> rfl
@[simp] theorem applyMap_mode (s : State) : (applyMap s).mode = s.mode := by
  unfold applyMap; split <;> rfl
@[simp] theorem applyMap_outEn (s : State) : (applyMap s).outEn = s.outEn := by
  unfold applyMap; split <;> rfl
@[simp] theorem applyMap_fault (s : State) : (applyMap s).fault = s.fault := by
  unfold applyMap; split <;> rfl
@[simp] theorem applyMap_flagsNow (s : State) : (applyMap s).flagsNow = s.flagsNow := by
  unfold applyMap; split <;> rfl
@[simp] theorem applyMap_cmdErr (s : State) : (applyMap s).cmdErr = s.cmdErr := by
  unfold applyMap; split <;> rfl
@[simp] theorem applyMap_uSat (s : State) : (applyMap s).uSat = s.uSat := by
  unfold applyMap; split <;> rfl
@[simp] theorem applyMap_pend (s : State) : (applyMap s).pend = s.pend := by
  unfold applyMap; split <;> rfl
@[simp] theorem applyMap_evt (s : State) : (applyMap s).evt = s.evt := by
  unfold applyMap; split <;> rfl
@[simp] theorem applyMap_ramp (s : State) : (applyMap s).ramp = s.ramp := by
  unfold applyMap; split <;> rfl
@[simp] theorem applyMap_riseCnt (s : State) : (applyMap s).riseCnt = s.riseCnt := by
  unfold applyMap; split <;> rfl
@[simp] theorem applyMap_dutyAct (s : State) : (applyMap s).dutyAct = s.dutyAct := by
  unfold applyMap; split <;> rfl
@[simp] theorem applyMap_stg (s : State) : (applyMap s).stg = s.stg := by
  unfold applyMap; split <;> rfl
@[simp] theorem applyMap_rdata (s : State) : (applyMap s).rdata = s.rdata := by
  unfold applyMap; split <;> rfl
@[simp] theorem applyMap_adc (s : State) : (applyMap s).adc = s.adc := by
  unfold applyMap; split <;> rfl
@[simp] theorem applyMap_tickInit (s : State) : (applyMap s).tickInit = s.tickInit := by
  unfold applyMap; split <;> rfl
@[simp] theorem applyMap_inbox (s : State) : (applyMap s).inbox = s.inbox := by
  unfold applyMap; split <;> rfl
@[simp] theorem applyMap_choices (s : State) : (applyMap s).choices = s.choices := by
  unfold applyMap; split <;> rfl

/-! `mapStage` -/

@[simp] theorem mapStage_cfg (s : State) : (mapStage s).cfg = s.cfg := by
  unfold mapStage; split
  · rfl
  · simp
@[simp] theorem mapStage_vin (s : State) : (mapStage s).vin = s.vin := by
  unfold mapStage; split
  · rfl
  · simp
@[simp] theorem mapStage_iin (s : State) : (mapStage s).iin = s.iin := by
  unfold mapStage; split
  · rfl
  · simp
@[simp] theorem mapStage_vout (s : State) : (mapStage s).vout = s.vout := by
  unfold mapStage; split
  · rfl
  · simp
@[simp] theorem mapStage_iout (s : State) : (mapStage s).iout = s.iout := by
  unfold mapStage; split
  · rfl
  · simp
@[simp] theorem mapStage_vadj (s : State) : (mapStage s).vadj = s.vadj := by
  unfold mapStage; split
  · rfl
  · simp
@[simp] theorem mapStage_vadjAvg (s : State) : (mapStage s).vadjAvg = s.vadjAvg := by
  unfold mapStage; split
  · rfl
  · simp
@[simp] theorem mapStage_ctl (s : State) : (mapStage s).ctl = s.ctl := by
  unfold mapStage; split
  · rfl
  · simp
@[simp] theorem mapStage_params (s : State) : (mapStage s).params = s.params := by
  unfold mapStage; split
  · rfl
  · simp
@[simp] theorem mapStage_geo (s : State) : (mapStage s).geo = s.geo := by
  unfold mapStage; split
  · rfl
  · simp
@[simp] theorem mapStage_state (s : State) : (mapStage s).state = s.state := by
  unfold mapStage; split
  · rfl
  · simp
@[simp] theorem mapStage_mode (s : State) : (mapStage s).mode = s.mode := by
  unfold mapStage; split
  · rfl
  · simp
@[simp] theorem mapStage_outEn (s : State) : (mapStage s).outEn = s.outEn := by
  unfold mapStage; split
  · rfl
  · simp
@[simp] theorem mapStage_fault (s : State) : (mapStage s).fault = s.fault := by
  unfold mapStage; split
  · rfl
  · simp
@[simp] theorem mapStage_flagsNow (s : State) : (mapStage s).flagsNow = s.flagsNow := by
  unfold mapStage; split
  · rfl
  · simp
@[simp] theorem mapStage_cmdErr (s : State) : (mapStage s).cmdErr = s.cmdErr := by
  unfold mapStage; split
  · rfl
  · simp
@[simp] theorem mapStage_uSat (s : State) : (mapStage s).uSat = s.uSat := by
  unfold mapStage; split
  · rfl
  · simp
@[simp] theorem mapStage_pend (s : State) : (mapStage s).pend = s.pend := by
  unfold mapStage; split
  · rfl
  · simp
@[simp] theorem mapStage_evt (s : State) : (mapStage s).evt = s.evt := by
  unfold mapStage; split
  · rfl
  · simp
@[simp] theorem mapStage_ramp (s : State) : (mapStage s).ramp = s.ramp := by
  unfold mapStage; split
  · rfl
  · simp
@[simp] theorem mapStage_riseCnt (s : State) : (mapStage s).riseCnt = s.riseCnt := by
  unfold mapStage; split
  · rfl
  · simp
@[simp] theorem mapStage_dutyAct (s : State) : (mapStage s).dutyAct = s.dutyAct := by
  unfold mapStage; split
  · rfl
  · simp
@[simp] theorem mapStage_rdata (s : State) : (mapStage s).rdata = s.rdata := by
  unfold mapStage; split
  · rfl
  · simp
@[simp] theorem mapStage_adc (s : State) : (mapStage s).adc = s.adc := by
  unfold mapStage; split
  · rfl
  · simp
@[simp] theorem mapStage_inbox (s : State) : (mapStage s).inbox = s.inbox := by
  unfold mapStage; split
  · rfl
  · simp
@[simp] theorem mapStage_choices (s : State) : (mapStage s).choices = s.choices := by
  unfold mapStage; split
  · rfl
  · simp

/-! `transition` -/

@[simp] theorem transition_cfg (s : State) : (transition s).cfg = s.cfg := by
  unfold transition; split
  · rfl
  · split <;> first | rfl | (split <;> rfl)
@[simp] theorem transition_vin (s : State) : (transition s).vin = s.vin := by
  unfold transition; split
  · rfl
  · split <;> first | rfl | (split <;> rfl)
@[simp] theorem transition_iin (s : State) : (transition s).iin = s.iin := by
  unfold transition; split
  · rfl
  · split <;> first | rfl | (split <;> rfl)
@[simp] theorem transition_vout (s : State) : (transition s).vout = s.vout := by
  unfold transition; split
  · rfl
  · split <;> first | rfl | (split <;> rfl)
@[simp] theorem transition_iout (s : State) : (transition s).iout = s.iout := by
  unfold transition; split
  · rfl
  · split <;> first | rfl | (split <;> rfl)
@[simp] theorem transition_vadj (s : State) : (transition s).vadj = s.vadj := by
  unfold transition; split
  · rfl
  · split <;> first | rfl | (split <;> rfl)
@[simp] theorem transition_vadjAvg (s : State) : (transition s).vadjAvg = s.vadjAvg := by
  unfold transition; split
  · rfl
  · split <;> first | rfl | (split <;> rfl)
@[simp] theorem transition_params (s : State) : (transition s).params = s.params := by
  unfold transition; split
  · rfl
  · split <;> first | rfl | (split <;> rfl)
@[simp] theorem transition_geo (s : State) : (transition s).geo = s.geo := by
  unfold transition; split
  · rfl
  · split <;> first | rfl | (split <;> rfl)
@[simp] theorem transition_out (s : State) : (transition s).out = s.out := by
  unfold transition; split
  · rfl
  · split <;> first | rfl | (split <;> rfl)
@[simp] theorem transition_mode (s : State) : (transition s).mode = s.mode := by
  unfold transition; split
  · rfl
  · split <;> first | rfl | (split <;> rfl)
@[simp] theorem transition_flagsNow (s : State) : (transition s).flagsNow = s.flagsNow := by
  unfold transition; split
  · rfl
  · split <;> first | rfl | (split <;> rfl)
@[simp] theorem transition_mapErr (s : State) : (transition s).mapErr = s.mapErr := by
  unfold transition; split
  · rfl
  · split <;> first | rfl | (split <;> rfl)
@[simp] theorem transition_cmdErr (s : State) : (transition s).cmdErr = s.cmdErr := by
  unfold transition; split
  · rfl
  · split <;> first | rfl | (split <;> rfl)
@[simp] theorem transition_uSat (s : State) : (transition s).uSat = s.uSat := by
  unfold transition; split
  · rfl
  · split <;> first | rfl | (split <;> rfl)
@[simp] theorem transition_pend (s : State) : (transition s).pend = s.pend := by
  unfold transition; split
  · rfl
  · split <;> first | rfl | (split <;> rfl)
@[simp] theorem transition_evt (s : State) : (transition s).evt = s.evt := by
  unfold transition; split
  · rfl
  · split <;> first | rfl | (split <;> rfl)
@[simp] theorem transition_dutyAct (s : State) : (transition s).dutyAct = s.dutyAct := by
  unfold transition; split
  · rfl
  · split <;> first | rfl | (split <;> rfl)
@[simp] theorem transition_stg (s : State) : (transition s).stg = s.stg := by
  unfold transition; split
  · rfl
  · split <;> first | rfl | (split <;> rfl)
@[simp] theorem transition_rdata (s : State) : (transition s).rdata = s.rdata := by
  unfold transition; split
  · rfl
  · split <;> first | rfl | (split <;> rfl)
@[simp] theorem transition_adc (s : State) : (transition s).adc = s.adc := by
  unfold transition; split
  · rfl
  · split <;> first | rfl | (split <;> rfl)
@[simp] theorem transition_tickInit (s : State) : (transition s).tickInit = s.tickInit := by
  unfold transition; split
  · rfl
  · split <;> first | rfl | (split <;> rfl)
@[simp] theorem transition_inbox (s : State) : (transition s).inbox = s.inbox := by
  unfold transition; split
  · rfl
  · split <;> first | rfl | (split <;> rfl)
@[simp] theorem transition_choices (s : State) : (transition s).choices = s.choices := by
  unfold transition; split
  · rfl
  · split <;> first | rfl | (split <;> rfl)

/-! `toggleMode` -/

@[simp] theorem toggleMode_cfg (s : State) : (toggleMode s).cfg = s.cfg := by
  unfold toggleMode; split <;> rfl
@[simp] theorem toggleMode_vin (s : State) : (toggleMode s).vin = s.vin := by
  unfold toggleMode; split <;> rfl
@[simp] theorem toggleMode_iin (s : State) : (toggleMode s).iin = s.iin := by
  unfold toggleMode; split <;> rfl
@[simp] theorem toggleMode_vout (s : State) : (toggleMode s).vout = s.vout := by
  unfold toggleMode; split <;> rfl
@[simp] theorem toggleMode_iout (s : State) : (toggleMode s).iout = s.iout := by
  unfold toggleMode; split <;> rfl
@[simp] theorem toggleMode_vadj (s : State) : (toggleMode s).vadj = s.vadj := by
  unfold toggleMode; split <;> rfl
@[simp] theorem toggleMode_vadjAvg (s : State) : (toggleMode s).vadjAvg = s.vadjAvg := by
  unfold toggleMode; split <;> rfl
@[simp] theorem toggleMode_params (s : State) : (toggleMode s).params = s.params := by
  unfold toggleMode; split <;> rfl
@[simp] theorem toggleMode_out (s : State) : (toggleMode s).out = s.out := by
  unfold toggleMode; split <;> rfl
@[simp] theorem toggleMode_state (s : State) : (toggleMode s).state = s.state := by
  unfold toggleMode; split <;> rfl
@[simp] theorem toggleMode_outEn (s : State) : (toggleMode s).outEn = s.outEn := by
  unfold toggleMode; split <;> rfl
@[simp] theorem toggleMode_fault (s : State) : (toggleMode s).fault = s.fault := by
  unfold toggleMode; split <;> rfl
@[simp] theorem toggleMode_flagsNow (s : State) : (toggleMode s).flagsNow = s.flagsNow := by
  unfold toggleMode; split <;> rfl
@[simp] theorem toggleMode_mapErr (s : State) : (toggleMode s).mapErr = s.mapErr := by
  unfold toggleMode; split <;> rfl
@[simp] theorem toggleMode_cmdErr (s : State) : (toggleMode s).cmdErr = s.cmdErr := by
  unfold toggleMode; split <;> rfl
@[simp] theorem toggleMode_pend (s : State) : (toggleMode s).pend = s.pend := by
  unfold toggleMode; split <;> rfl
@[simp] theorem toggleMode_evt (s : State) : (toggleMode s).evt = s.evt := by
  unfold toggleMode; split <;> rfl
@[simp] theorem toggleMode_ramp (s : State) : (toggleMode s).ramp = s.ramp := by
  unfold toggleMode; split <;> rfl
@[simp] theorem toggleMode_riseCnt (s : State) : (toggleMode s).riseCnt = s.riseCnt := by
  unfold toggleMode; split <;> rfl
@[simp] theorem toggleMode_dutyAct (s : State) : (toggleMode s).dutyAct = s.dutyAct := by
  unfold toggleMode; split <;> rfl
@[simp] theorem toggleMode_stg (s : State) : (toggleMode s).stg = s.stg := by
  unfold toggleMode; split <;> rfl
@[simp] theorem toggleMode_rdata (s : State) : (toggleMode s).rdata = s.rdata := by
  unfold toggleMode; split <;> rfl
@[simp] theorem toggleMode_adc (s : State) : (toggleMode s).adc = s.adc := by
  unfold toggleMode; split <;> rfl
@[simp] theorem toggleMode_tickInit (s : State) : (toggleMode s).tickInit = s.tickInit := by
  unfold toggleMode; split <;> rfl
@[simp] theorem toggleMode_inbox (s : State) : (toggleMode s).inbox = s.inbox := by
  unfold toggleMode; split <;> rfl
@[simp] theorem toggleMode_choices (s : State) : (toggleMode s).choices = s.choices := by
  unfold toggleMode; split <;> rfl

/-! `toggleIf` -/

@[simp] theorem toggleIf_cfg (entry : ConvState) (trip : Bool) (s : State) : (toggleIf entry trip s).cfg = s.cfg := by
  unfold toggleIf; split <;> simp
@[simp] theorem toggleIf_vin (entry : ConvState) (trip : Bool) (s : State) : (toggleIf entry trip s).vin = s.vin := by
  unfold toggleIf; split <;> simp
@[simp] theorem toggleIf_iin (entry : ConvState) (trip : Bool) (s : State) : (toggleIf entry trip s).iin = s.iin := by
  unfold toggleIf; split <;> simp
@[simp] theorem toggleIf_vout (entry : ConvState) (trip : Bool) (s : State) : (toggleIf entry trip s).vout = s.vout := by
  unfold toggleIf; split <;> simp
@[simp] theorem toggleIf_iout (entry : ConvState) (trip : Bool) (s : State) : (toggleIf entry trip s).iout = s.iout := by
  unfold toggleIf; split <;> simp
@[simp] theorem toggleIf_vadj (entry : ConvState) (trip : Bool) (s : State) : (toggleIf entry trip s).vadj = s.vadj := by
  unfold toggleIf; split <;> simp
@[simp] theorem toggleIf_vadjAvg (entry : ConvState) (trip : Bool) (s : State) : (toggleIf entry trip s).vadjAvg = s.vadjAvg := by
  unfold toggleIf; split <;> simp
@[simp] theorem toggleIf_params (entry : ConvState) (trip : Bool) (s : State) : (toggleIf entry trip s).params = s.params := by
  unfold toggleIf; split <;> simp
@[simp] theorem toggleIf_out (entry : ConvState) (trip : Bool) (s : State) : (toggleIf entry trip s).out = s.out := by
  unfold toggleIf; split <;> simp
@[simp] theorem toggleIf_state (entry : ConvState) (trip : Bool) (s : State) : (toggleIf entry trip s).state = s.state := by
  unfold toggleIf; split <;> simp
@[simp] theorem toggleIf_outEn (entry : ConvState) (trip : Bool) (s : State) : (toggleIf entry trip s).outEn = s.outEn := by
  unfold toggleIf; split <;> simp
@[simp] theorem toggleIf_fault (entry : ConvState) (trip : Bool) (s : State) : (toggleIf entry trip s).fault = s.fault := by
  unfold toggleIf; split <;> simp
@[simp] theorem toggleIf_flagsNow (entry : ConvState) (trip : Bool) (s : State) : (toggleIf entry trip s).flagsNow = s.flagsNow := by
  unfold toggleIf; split <;> simp
@[simp] theorem toggleIf_mapErr (entry : ConvState) (trip : Bool) (s : State) : (toggleIf entry trip s).mapErr = s.mapErr := by
  unfold toggleIf; split <;> simp
@[simp] theorem toggleIf_cmdErr (entry : ConvState) (trip : Bool) (s : State) : (toggleIf entry trip s).cmdErr = s.cmdErr := by
  unfold toggleIf; split <;> simp
@[simp] theorem toggleIf_pend (entry : ConvState) (trip : Bool) (s : State) : (toggleIf entry trip s).pend = s.pend := by
  unfold toggleIf; split <;> simp
@[simp] theorem toggleIf_evt (entry : ConvState) (trip : Bool) (s : State) : (toggleIf entry trip s).evt = s.evt := by
  unfold toggleIf; split <;> simp
@[simp] theorem toggleIf_ramp (entry : ConvState) (trip : Bool) (s : State) : (toggleIf entry trip s).ramp = s.ramp := by
  unfold toggleIf; split <;> simp
@[simp] theorem toggleIf_riseCnt (entry : ConvState) (trip : Bool) (s : State) : (toggleIf entry trip s).riseCnt = s.riseCnt := by
  unfold toggleIf; split <;> simp
@[simp] theorem toggleIf_dutyAct (entry : ConvState) (trip : Bool) (s : State) : (toggleIf entry trip s).dutyAct = s.dutyAct := by
  unfold toggleIf; split <;> simp
@[simp] theorem toggleIf_stg (entry : ConvState) (trip : Bool) (s : State) : (toggleIf entry trip s).stg = s.stg := by
  unfold toggleIf; split <;> simp
@[simp] theorem toggleIf_rdata (entry : ConvState) (trip : Bool) (s : State) : (toggleIf entry trip s).rdata = s.rdata := by
  unfold toggleIf; split <;> simp
@[simp] theorem toggleIf_adc (entry : ConvState) (trip : Bool) (s : State) : (toggleIf entry trip s).adc = s.adc := by
  unfold toggleIf; split <;> simp
@[simp] theorem toggleIf_tickInit (entry : ConvState) (trip : Bool) (s : State) : (toggleIf entry trip s).tickInit = s.tickInit := by
  unfold toggleIf; split <;> simp
@[simp] theorem toggleIf_inbox (entry : ConvState) (trip : Bool) (s : State) : (toggleIf entry trip s).inbox = s.inbox := by
  unfold toggleIf; split <;> simp
@[simp] theorem toggleIf_choices (entry : ConvState) (trip : Bool) (s : State) : (toggleIf entry trip s).choices = s.choices := by
  unfold toggleIf; split <;> simp

/-! `onEvent`: a field the step keeps is kept. -/

theorem onEvent_keeps {α : Type} (g : State → α) (e : Event) (f : State → State) (s : State) (h : g (f s) = g s) :
    g (onEvent e f s) = g s := by
  unfold onEvent; split
  · exact h
  · rfl

/-! `applySteps` -/

@[simp] theorem onStep_cfg (e : Event) (s : State) (d : Int) : (onEvent e (stepPeriod d) s).cfg = s.cfg ∧
    (onEvent e (stepDuty d) s).cfg = s.cfg ∧ (onEvent e (stepDead d) s).cfg = s.cfg :=
  ⟨onEvent_keeps (·.cfg) e _ s rfl, onEvent_keeps (·.cfg) e _ s rfl, onEvent_keeps (·.cfg) e _ s rfl⟩
@[simp] theorem applySteps_cfg (s : State) : (applySteps s).cfg = s.cfg := by
  simp only [applySteps, onStep_cfg]
@[simp] theorem onStep_vin (e : Event) (s : State) (d : Int) : (onEvent e (stepPeriod d) s).vin = s.vin ∧
    (onEvent e (stepDuty d) s).vin = s.vin ∧ (onEvent e (stepDead d) s).vin = s.vin :=
  ⟨onEvent_keeps (·.vin) e _ s rfl, onEvent_keeps (·.vin) e _ s rfl, onEvent_keeps (·.vin) e _ s rfl⟩
@[simp] theorem applySteps_vin (s : State) : (applySteps s).vin = s.vin := by
  simp only [applySteps, onStep_vin]
@[simp] theorem onStep_iin (e : Event) (s : State) (d : Int) : (onEvent e (stepPeriod d) s).iin = s.iin ∧
    (onEvent e (stepDuty d) s).iin = s.iin ∧ (onEvent e (stepDead d) s).iin = s.iin :=
  ⟨onEvent_keeps (·.iin) e _ s rfl, onEvent_keeps (·.iin) e _ s rfl, onEvent_keeps (·.iin) e _ s rfl⟩
@[simp] theorem applySteps_iin (s : State) : (applySteps s).iin = s.iin := by
  simp only [applySteps, onStep_iin]
@[simp] theorem onStep_vout (e : Event) (s : State) (d : Int) : (onEvent e (stepPeriod d) s).vout = s.vout ∧
    (onEvent e (stepDuty d) s).vout = s.vout ∧ (onEvent e (stepDead d) s).vout = s.vout :=
  ⟨onEvent_keeps (·.vout) e _ s rfl, onEvent_keeps (·.vout) e _ s rfl, onEvent_keeps (·.vout) e _ s rfl⟩
@[simp] theorem applySteps_vout (s : State) : (applySteps s).vout = s.vout := by
  simp only [applySteps, onStep_vout]
@[simp] theorem onStep_iout (e : Event) (s : State) (d : Int) : (onEvent e (stepPeriod d) s).iout = s.iout ∧
    (onEvent e (stepDuty d) s).iout = s.iout ∧ (onEvent e (stepDead d) s).iout = s.iout :=
  ⟨onEvent_keeps (·.iout) e _ s rfl, onEvent_keeps (·.iout) e _ s rfl, onEvent_keeps (·.iout) e _ s rfl⟩
@[simp] theorem applySteps_iout (s : State) : (applySteps s).iout = s.iout := by
  simp only [applySteps, onStep_iout]
@[simp] theorem onStep_vadj (e : Event) (s : State) (d : Int) : (onEvent e (stepPeriod d) s).vadj = s.vadj ∧
    (onEvent e (stepDuty d) s).vadj = s.vadj ∧ (onEvent e (stepDead d) s).vadj = s.vadj :=
  ⟨onEvent_keeps (·.vadj) e _ s rfl, onEvent_keeps (·.vadj) e _ s rfl, onEvent_keeps (·.vadj) e _ s rfl⟩
@[simp] theorem applySteps_vadj (s : State) : (applySteps s).vadj = s.vadj := by
  simp only [applySteps, onStep_vadj]
@[simp] theorem onStep_vadjAvg (e : Event) (s : State) (d : Int) : (onEvent e (stepPeriod d) s).vadjAvg = s.vadjAvg ∧
    (onEvent e (stepDuty d) s).vadjAvg = s.vadjAvg ∧ (onEvent e (stepDead d) s).vadjAvg = s.vadjAvg :=
  ⟨onEvent_keeps (·.vadjAvg) e _ s rfl, onEvent_keeps (·.vadjAvg) e _ s rfl, onEvent_keeps (·.vadjAvg) e _ s rfl⟩
@[simp] theorem applySteps_vadjAvg (s : State) : (applySteps s).vadjAvg = s.vadjAvg := by
  simp only [applySteps, onStep_vadjAvg]
@[simp] theorem onStep_ctl (e : Event) (s : State) (d : Int) : (onEvent e (stepPeriod d) s).ctl = s.ctl ∧
    (onEvent e (stepDuty d) s).ctl = s.ctl ∧ (onEvent e (stepDead d) s).ctl = s.ctl :=
  ⟨onEvent_keeps (·.ctl) e _ s rfl, onEvent_keeps (·.ctl) e _ s rfl, onEvent_keeps (·.ctl) e _ s rfl⟩
@[simp] theorem applySteps_ctl (s : State) : (applySteps s).ctl = s.ctl := by
  simp only [applySteps, onStep_ctl]
@[simp] theorem onStep_params (e : Event) (s : State) (d : Int) : (onEvent e (stepPeriod d) s).params = s.params ∧
    (onEvent e (stepDuty d) s).params = s.params ∧ (onEvent e (stepDead d) s).params = s.params :=
  ⟨onEvent_keeps (·.params) e _ s rfl, onEvent_keeps (·.params) e _ s rfl, onEvent_keeps (·.params) e _ s rfl⟩
@[simp] theorem applySteps_params (s : State) : (applySteps s).params = s.params := by
  simp only [applySteps, onStep_params]
@[simp] theorem onStep_out (e : Event) (s : State) (d : Int) : (onEvent e (stepPeriod d) s).out = s.out ∧
    (onEvent e (stepDuty d) s).out = s.out ∧ (onEvent e (stepDead d) s).out = s.out :=
  ⟨onEvent_keeps (·.out) e _ s rfl, onEvent_keeps (·.out) e _ s rfl, onEvent_keeps (·.out) e _ s rfl⟩
@[simp] theorem applySteps_out (s : State) : (applySteps s).out = s.out := by
  simp only [applySteps, onStep_out]
@[simp] theorem onStep_state (e : Event) (s : State) (d : Int) : (onEvent e (stepPeriod d) s).state = s.state ∧
    (onEvent e (stepDuty d) s).state = s.state ∧ (onEvent e (stepDead d) s).state = s.state :=
  ⟨onEvent_keeps (·.state) e _ s rfl, onEvent_keeps (·.state) e _ s rfl, onEvent_keeps (·.state) e _ s rfl⟩
@[simp] theorem applySteps_state (s : State) : (applySteps s).state = s.state := by
  simp only [applySteps, onStep_state]
@[simp] theorem onStep_mode (e : Event) (s : State) (d : Int) : (onEvent e (stepPeriod d) s).mode = s.mode ∧
    (onEvent e (stepDuty d) s).mode = s.mode ∧ (onEvent e (stepDead d) s).mode = s.mode :=
  ⟨onEvent_keeps (·.mode) e _ s rfl, onEvent_keeps (·.mode) e _ s rfl, onEvent_keeps (·.mode) e _ s rfl⟩
@[simp] theorem applySteps_mode (s : State) : (applySteps s).mode = s.mode := by
  simp only [applySteps, onStep_mode]
@[simp] theorem onStep_outEn (e : Event) (s : State) (d : Int) : (onEvent e (stepPeriod d) s).outEn = s.outEn ∧
    (onEvent e (stepDuty d) s).outEn = s.outEn ∧ (onEvent e (stepDead d) s).outEn = s.outEn :=
  ⟨onEvent_keeps (·.outEn) e _ s rfl, onEvent_keeps (·.outEn) e _ s rfl, onEvent_keeps (·.outEn) e _ s rfl⟩
@[simp] theorem applySteps_outEn (s : State) : (applySteps s).outEn = s.outEn := by
  simp only [applySteps, onStep_outEn]
@[simp] theorem onStep_fault (e : Event) (s : State) (d : Int) : (onEvent e (stepPeriod d) s).fault = s.fault ∧
    (onEvent e (stepDuty d) s).fault = s.fault ∧ (onEvent e (stepDead d) s).fault = s.fault :=
  ⟨onEvent_keeps (·.fault) e _ s rfl, onEvent_keeps (·.fault) e _ s rfl, onEvent_keeps (·.fault) e _ s rfl⟩
@[simp] theorem applySteps_fault (s : State) : (applySteps s).fault = s.fault := by
  simp only [applySteps, onStep_fault]
@[simp] theorem onStep_flagsNow (e : Event) (s : State) (d : Int) : (onEvent e (stepPeriod d) s).flagsNow = s.flagsNow ∧
    (onEvent e (stepDuty d) s).flagsNow = s.flagsNow ∧ (onEvent e (stepDead d) s).flagsNow = s.flagsNow :=
  ⟨onEvent_keeps (·.flagsNow) e _ s rfl, onEvent_keeps (·.flagsNow) e _ s rfl, onEvent_keeps (·.flagsNow) e _ s rfl⟩
@[simp] theorem applySteps_flagsNow (s : State) : (applySteps s).flagsNow = s.flagsNow := by
  simp only [applySteps, onStep_flagsNow]
@[simp] theorem onStep_mapErr (e : Event) (s : State) (d : Int) : (onEvent e (stepPeriod d) s).mapErr = s.mapErr ∧
    (onEvent e (stepDuty d) s).mapErr = s.mapErr ∧ (onEvent e (stepDead d) s).mapErr = s.mapErr :=
  ⟨onEvent_keeps (·.mapErr) e _ s rfl, onEvent_keeps (·.mapErr) e _ s rfl, onEvent_keeps (·.mapErr) e _ s rfl⟩
@[simp] theorem applySteps_mapErr (s : State) : (applySteps s).mapErr = s.mapErr := by
  simp only [applySteps, onStep_mapErr]
@[simp] theorem onStep_cmdErr (e : Event) (s : State) (d : Int) : (onEvent e (stepPeriod d) s).cmdErr = s.cmdErr ∧
    (onEvent e (stepDuty d) s).cmdErr = s.cmdErr ∧ (onEvent e (stepDead d) s).cmdErr = s.cmdErr :=
  ⟨onEvent_keeps (·.cmdErr) e _ s rfl, onEvent_keeps (·.cmdErr) e _ s rfl, onEvent_keeps (·.cmdErr) e _ s rfl⟩
@[simp] theorem applySteps_cmdErr (s : State) : (applySteps s).cmdErr = s.cmdErr := by
  simp only [applySteps, onStep_cmdErr]
@[simp] theorem onStep_uSat (e : Event) (s : State) (d : Int) : (onEvent e (stepPeriod d) s).uSat = s.uSat ∧
    (onEvent e (stepDuty d) s).uSat = s.uSat ∧ (onEvent e (stepDead d) s).uSat = s.uSat :=
  ⟨onEvent_keeps (·.uSat) e _ s rfl, onEvent_keeps (·.uSat) e _ s rfl, onEvent_keeps (·.uSat) e _ s rfl⟩
@[simp] theorem applySteps_uSat (s : State) : (applySteps s).uSat = s.uSat := by
  simp only [applySteps, onStep_uSat]
@[simp] theorem onStep_pend (e : Event) (s : State) (d : Int) : (onEvent e (stepPeriod d) s).pend = s.pend ∧
    (onEvent e (stepDuty d) s).pend = s.pend ∧ (onEvent e (stepDead d) s).pend = s.pend :=
  ⟨onEvent_keeps (·.pend) e _ s rfl, onEvent_keeps (·.pend) e _ s rfl, onEvent_keeps (·.pend) e _ s rfl⟩
@[simp] theorem applySteps_pend (s : State) : (applySteps s).pend = s.pend := by
  simp only [applySteps, onStep_pend]
@[simp] theorem onStep_evt (e : Event) (s : State) (d : Int) : (onEvent e (stepPeriod d) s).evt = s.evt ∧
    (onEvent e (stepDuty d) s).evt = s.evt ∧ (onEvent e (stepDead d) s).evt = s.evt :=
  ⟨onEvent_keeps (·.evt) e _ s rfl, onEvent_keeps (·.evt) e _ s rfl, onEvent_keeps (·.evt) e _ s rfl⟩
@[simp] theorem applySteps_evt (s : State) : (applySteps s).evt = s.evt := by
  simp only [applySteps, onStep_evt]
@[simp] theorem onStep_ramp (e : Event) (s : State) (d : Int) : (onEvent e (stepPeriod d) s).ramp = s.ramp ∧
    (onEvent e (stepDuty d) s).ramp = s.ramp ∧ (onEvent e (stepDead d) s).ramp = s.ramp :=
  ⟨onEvent_keeps (·.ramp) e _ s rfl, onEvent_keeps (·.ramp) e _ s rfl, onEvent_keeps (·.ramp) e _ s rfl⟩
@[simp] theorem applySteps_ramp (s : State) : (applySteps s).ramp = s.ramp := by
  simp only [applySteps, onStep_ramp]
@[simp] theorem onStep_riseCnt (e : Event) (s : State) (d : Int) : (onEvent e (stepPeriod d) s).riseCnt = s.riseCnt ∧
    (onEvent e (stepDuty d) s).riseCnt = s.riseCnt ∧ (onEvent e (stepDead d) s).riseCnt = s.riseCnt :=
  ⟨onEvent_keeps (·.riseCnt) e _ s rfl, onEvent_keeps (·.riseCnt) e _ s rfl, onEvent_keeps (·.riseCnt) e _ s rfl⟩
@[simp] theorem applySteps_riseCnt (s : State) : (applySteps s).riseCnt = s.riseCnt := by
  simp only [applySteps, onStep_riseCnt]
@[simp] theorem onStep_dutyAct (e : Event) (s : State) (d : Int) : (onEvent e (stepPeriod d) s).dutyAct = s.dutyAct ∧
    (onEvent e (stepDuty d) s).dutyAct = s.dutyAct ∧ (onEvent e (stepDead d) s).dutyAct = s.dutyAct :=
  ⟨onEvent_keeps (·.dutyAct) e _ s rfl, onEvent_keeps (·.dutyAct) e _ s rfl, onEvent_keeps (·.dutyAct) e _ s rfl⟩
@[simp] theorem applySteps_dutyAct (s : State) : (applySteps s).dutyAct = s.dutyAct := by
  simp only [applySteps, onStep_dutyAct]
@[simp] theorem onStep_stg (e : Event) (s : State) (d : Int) : (onEvent e (stepPeriod d) s).stg = s.stg ∧
    (onEvent e (stepDuty d) s).stg = s.stg ∧ (onEvent e (stepDead d) s).stg = s.stg :=
  ⟨onEvent_keeps (·.stg) e _ s rfl, onEvent_keeps (·.stg) e _ s rfl, onEvent_keeps (·.stg) e _ s rfl⟩
@[simp] theorem applySteps_stg (s : State) : (applySteps s).stg = s.stg := by
  simp only [applySteps, onStep_stg]
@[simp] theorem onStep_rdata (e : Event) (s : State) (d : Int) : (onEvent e (stepPeriod d) s).rdata = s.rdata ∧
    (onEvent e (stepDuty d) s).rdata = s.rdata ∧ (onEvent e (stepDead d) s).rdata = s.rdata :=
  ⟨onEvent_keeps (·.rdata) e _ s rfl, onEvent_keeps (·.rdata) e _ s rfl, onEvent_keeps (·.rdata) e _ s rfl⟩
@[simp] theorem applySteps_rdata (s : State) : (applySteps s).rdata = s.rdata := by
  simp only [applySteps, onStep_rdata]
@[simp] theorem onStep_adc (e : Event) (s : State) (d : Int) : (onEvent e (stepPeriod d) s).adc = s.adc ∧
    (onEvent e (stepDuty d) s).adc = s.adc ∧ (onEvent e (stepDead d) s).adc = s.adc :=
  ⟨onEvent_keeps (·.adc) e _ s rfl, onEvent_keeps (·.adc) e _ s rfl, onEvent_keeps (·.adc) e _ s rfl⟩
@[simp] theorem applySteps_adc (s : State) : (applySteps s).adc = s.adc := by
  simp only [applySteps, onStep_adc]
@[simp] theorem onStep_tickInit (e : Event) (s : State) (d : Int) : (onEvent e (stepPeriod d) s).tickInit = s.tickInit ∧
    (onEvent e (stepDuty d) s).tickInit = s.tickInit ∧ (onEvent e (stepDead d) s).tickInit = s.tickInit :=
  ⟨onEvent_keeps (·.tickInit) e _ s rfl, onEvent_keeps (·.tickInit) e _ s rfl, onEvent_keeps (·.tickInit) e _ s rfl⟩
@[simp] theorem applySteps_tickInit (s : State) : (applySteps s).tickInit = s.tickInit := by
  simp only [applySteps, onStep_tickInit]
@[simp] theorem onStep_inbox (e : Event) (s : State) (d : Int) : (onEvent e (stepPeriod d) s).inbox = s.inbox ∧
    (onEvent e (stepDuty d) s).inbox = s.inbox ∧ (onEvent e (stepDead d) s).inbox = s.inbox :=
  ⟨onEvent_keeps (·.inbox) e _ s rfl, onEvent_keeps (·.inbox) e _ s rfl, onEvent_keeps (·.inbox) e _ s rfl⟩
@[simp] theorem applySteps_inbox (s : State) : (applySteps s).inbox = s.inbox := by
  simp only [applySteps, onStep_inbox]
@[simp] theorem onStep_choices (e : Event) (s : State) (d : Int) : (onEvent e (stepPeriod d) s).choices = s.choices ∧
    (onEvent e (stepDuty d) s).choices = s.choices ∧ (onEvent e (stepDead d) s).choices = s.choices :=
  ⟨onEvent_keeps (·.choices) e _ s rfl, onEvent_keeps (·.choices) e _ s rfl, onEvent_keeps (·.choices) e _ s rfl⟩
@[simp] theorem applySteps_choices (s : State) : (applySteps s).choices = s.choices := by
  simp only [applySteps, onStep_choices]

/-! `stepEvents` -/

@[simp] theorem stepEvents_cfg (s : State) : (stepEvents s).cfg = s.cfg := by
  unfold stepEvents; split <;> simp
@[simp] theorem stepEvents_vin (s : State) : (stepEvents s).vin = s.vin := by
  unfold stepEvents; split <;> simp
@[simp] theorem stepEvents_iin (s : State) : (stepEvents s).iin = s.iin := by
  unfold stepEvents; split <;> simp
@[simp] theorem stepEvents_vout (s : State) : (stepEvents s).vout = s.vout := by
  unfold stepEvents; split <;> simp
@[simp] theorem stepEvents_iout (s : State) : (stepEvents s).iout = s.iout := by
  unfold stepEvents; split <;> simp
@[simp] theorem stepEvents_vadj (s : State) : (stepEvents s).vadj = s.vadj := by
  unfold stepEvents; split <;> simp
@[simp] theorem stepEvents_vadjAvg (s : State) : (stepEvents s).vadjAvg = s.vadjAvg := by
  unfold stepEvents; split <;> simp
@[simp] theorem stepEvents_ctl (s : State) : (stepEvents s).ctl = s.ctl := by
  unfold stepEvents; split <;> simp
@[simp] theorem stepEvents_params (s : State) : (stepEvents s).params = s.params := by
  unfold stepEvents; split <;> simp
@[simp] theorem stepEvents_out (s : State) : (stepEvents s).out = s.out := by
  unfold stepEvents; split <;> simp
@[simp] theorem stepEvents_state (s : State) : (stepEvents s).state = s.state := by
  unfold stepEvents; split <;> simp
@[simp] theorem stepEvents_mode (s : State) : (stepEvents s).mode = s.mode := by
  unfold stepEvents; split <;> simp
@[simp] theorem stepEvents_outEn (s : State) : (stepEvents s).outEn = s.outEn := by
  unfold stepEvents; split <;> simp
@[simp] theorem stepEvents_fault (s : State) : (stepEvents s).fault = s.fault := by
  unfold stepEvents; split <;> simp
@[simp] theorem stepEvents_flagsNow (s : State) : (stepEvents s).flagsNow = s.flagsNow := by
  unfold stepEvents; split <;> simp
@[simp] theorem stepEvents_mapErr (s : State) : (stepEvents s).mapErr = s.mapErr := by
  unfold stepEvents; split <;> simp
@[simp] theorem stepEvents_cmdErr (s : State) : (stepEvents s).cmdErr = s.cmdErr := by
  unfold stepEvents; split <;> simp
@[simp] theorem stepEvents_uSat (s : State) : (stepEvents s).uSat = s.uSat := by
  unfold stepEvents; split <;> simp
@[simp] theorem stepEvents_pend (s : State) : (stepEvents s).pend = s.pend := by
  unfold stepEvents; split <;> simp
@[simp] theorem stepEvents_evt (s : State) : (stepEvents s).evt = s.evt := by
  unfold stepEvents; split <;> simp
@[simp] theorem stepEvents_ramp (s : State) : (stepEvents s).ramp = s.ramp := by
  unfold stepEvents; split <;> simp
@[simp] theorem stepEvents_riseCnt (s : State) : (stepEvents s).riseCnt = s.riseCnt := by
  unfold stepEvents; split <;> simp
@[simp] theorem stepEvents_dutyAct (s : State) : (stepEvents s).dutyAct = s.dutyAct := by
  unfold stepEvents; split <;> simp
@[simp] theorem stepEvents_stg (s : State) : (stepEvents s).stg = s.stg := by
  unfold stepEvents; split <;> simp
@[simp] theorem stepEvents_rdata (s : State) : (stepEvents s).rdata = s.rdata := by
  unfold stepEvents; split <;> simp
@[simp] theorem stepEvents_adc (s : State) : (stepEvents s).adc = s.adc := by
  unfold stepEvents; split <;> simp
@[simp] theorem stepEvents_tickInit (s : State) : (stepEvents s).tickInit = s.tickInit := by
  unfold stepEvents; split <;> simp
@[simp] theorem stepEvents_inbox (s : State) : (stepEvents s).inbox = s.inbox := by
  unfold stepEvents; split <;> simp
@[simp] theorem stepEvents_choices (s : State) : (stepEvents s).choices = s.choices := by
  unfold stepEvents; split <;> simp

/-! `rampIf` -/

@[simp] theorem rampIf_cfg (entry : ConvState) (trip : Bool) (s : State) : (rampIf entry trip s).cfg = s.cfg := by
  unfold rampIf; split <;> simp
@[simp] theorem rampIf_vin (entry : ConvState) (trip : Bool) (s : State) : (rampIf entry trip s).vin = s.vin := by
  unfold rampIf; split <;> simp
@[simp] theorem rampIf_iin (entry : ConvState) (trip : Bool) (s : State) : (rampIf entry trip s).iin = s.iin := by
  unfold rampIf; split <;> simp
@[simp] theorem rampIf_vout (entry : ConvState) (trip : Bool) (s : State) : (rampIf entry trip s).vout = s.vout := by
  unfold rampIf; split <;> simp
@[simp] theorem rampIf_iout (entry : ConvState) (trip : Bool) (s : State) : (rampIf entry trip s).iout = s.iout := by
  unfold rampIf; split <;> simp
@[simp] theorem rampIf_vadj (entry : ConvState) (trip : Bool) (s : State) : (rampIf entry trip s).vadj = s.vadj := by
  unfold rampIf; split <;> simp
@[simp] theorem rampIf_vadjAvg (entry : ConvState) (trip : Bool) (s : State) : (rampIf entry trip s).vadjAvg = s.vadjAvg := by
  unfold rampIf; split <;> simp
@[simp] theorem rampIf_ctl (entry : ConvState) (trip : Bool) (s : State) : (rampIf entry trip s).ctl = s.ctl := by
  unfold rampIf; split <;> simp
@[simp] theorem rampIf_params (entry : ConvState) (trip : Bool) (s : State) : (rampIf entry trip s).params = s.params := by
  unfold rampIf; split <;> simp
@[simp] theorem rampIf_geo (entry : ConvState) (trip : Bool) (s : State) : (rampIf entry trip s).geo = s.geo := by
  unfold rampIf; split <;> simp
@[simp] theorem rampIf_out (entry : ConvState) (trip : Bool) (s : State) : (rampIf entry trip s).out = s.out := by
  unfold rampIf; split <;> simp
@[simp] theorem rampIf_mode (entry : ConvState) (trip : Bool) (s : State) : (rampIf entry trip s).mode = s.mode := by
  unfold rampIf; split <;> simp
@[simp] theorem rampIf_outEn (entry : ConvState) (trip : Bool) (s : State) : (rampIf entry trip s).outEn = s.outEn := by
  unfold rampIf; split <;> simp
@[simp] theorem rampIf_fault (entry : ConvState) (trip : Bool) (s : State) : (rampIf entry trip s).fault = s.fault := by
  unfold rampIf; split <;> simp
@[simp] theorem rampIf_flagsNow (entry : ConvState) (trip : Bool) (s : State) : (rampIf entry trip s).flagsNow = s.flagsNow := by
  unfold rampIf; split <;> simp
@[simp] theorem rampIf_mapErr (entry : ConvState) (trip : Bool) (s : State) : (rampIf entry trip s).mapErr = s.mapErr := by
  unfold rampIf; split <;> simp
@[simp] theorem rampIf_cmdErr (entry : ConvState) (trip : Bool) (s : State) : (rampIf entry trip s).cmdErr = s.cmdErr := by
  unfold rampIf; split <;> simp
@[simp] theorem rampIf_uSat (entry : ConvState) (trip : Bool) (s : State) : (rampIf entry trip s).uSat = s.uSat := by
  unfold rampIf; split <;> simp
@[simp] theorem rampIf_pend (entry : ConvState) (trip : Bool) (s : State) : (rampIf entry trip s).pend = s.pend := by
  unfold rampIf; split <;> simp
@[simp] theorem rampIf_evt (entry : ConvState) (trip : Bool) (s : State) : (rampIf entry trip s).evt = s.evt := by
  unfold rampIf; split <;> simp
@[simp] theorem rampIf_dutyAct (entry : ConvState) (trip : Bool) (s : State) : (rampIf entry trip s).dutyAct = s.dutyAct := by
  unfold rampIf; split <;> simp
@[simp] theorem rampIf_stg (entry : ConvState) (trip : Bool) (s : State) : (rampIf entry trip s).stg = s.stg := by
  unfold rampIf; split <;> simp
@[simp] theorem rampIf_rdata (entry : ConvState) (trip : Bool) (s : State) : (rampIf entry trip s).rdata = s.rdata := by
  unfold rampIf; split <;> simp
@[simp] theorem rampIf_adc (entry : ConvState) (trip : Bool) (s : State) : (rampIf entry trip s).adc = s.adc := by
  unfold rampIf; split <;> simp
@[simp] theorem rampIf_tickInit (entry : ConvState) (trip : Bool) (s : State) : (rampIf entry trip s).tickInit = s.tickInit := by
  unfold rampIf; split <;> simp
@[simp] theorem rampIf_inbox (entry : ConvState) (trip : Bool) (s : State) : (rampIf entry trip s).inbox = s.inbox := by
  unfold rampIf; split <;> simp
@[simp] theorem rampIf_choices (entry : ConvState) (trip : Bool) (s : State) : (rampIf entry trip s).choices = s.choices := by
  unfold rampIf; split <;> simp

/-! `fsmSteps` -/

@[simp] theorem fsmSteps_cfg (s : State) : (fsmSteps s).cfg = s.cfg := by
  simp [fsmSteps]
@[simp] theorem fsmSteps_vin (s : State) : (fsmSteps s).vin = s.vin := by
  simp [fsmSteps]
@[simp] theorem fsmSteps_iin (s : State) : (fsmSteps s).iin = s.iin := by
  simp [fsmSteps]
@[simp] theorem fsmSteps_vout (s : State) : (fsmSteps s).vout = s.vout := by
  simp [fsmSteps]
@[simp] theorem fsmSteps_iout (s : State) : (fsmSteps s).iout = s.iout := by
  simp [fsmSteps]
@[simp] theorem fsmSteps_vadj (s : State) : (fsmSteps s).vadj = s.vadj := by
  simp [fsmSteps]
@[simp] theorem fsmSteps_vadjAvg (s : State) : (fsmSteps s).vadjAvg = s.vadjAvg := by
  simp [fsmSteps]
@[simp] theorem fsmSteps_params (s : State) : (fsmSteps s).params = s.params := by
  simp [fsmSteps]
@[simp] theorem fsmSteps_out (s : State) : (fsmSteps s).out = s.out := by
  simp [fsmSteps]
@[simp] theorem fsmSteps_flagsNow (s : State) : (fsmSteps s).flagsNow = s.flagsNow := by
  simp [fsmSteps]
@[simp] theorem fsmSteps_mapErr (s : State) : (fsmSteps s).mapErr = s.mapErr := by
  simp [fsmSteps]
@[simp] theorem fsmSteps_cmdErr (s : State) : (fsmSteps s).cmdErr = s.cmdErr := by
  simp [fsmSteps]
@[simp] theorem fsmSteps_pend (s : State) : (fsmSteps s).pend = s.pend := by
  simp [fsmSteps]
@[simp] theorem fsmSteps_evt (s : State) : (fsmSteps s).evt = s.evt := by
  simp [fsmSteps]
@[simp] theorem fsmSteps_stg (s : State) : (fsmSteps s).stg = s.stg := by
  simp [fsmSteps]
@[simp] theorem fsmSteps_rdata (s : State) : (fsmSteps s).rdata = s.rdata := by
  simp [fsmSteps]
@[simp] theorem fsmSteps_adc (s : State) : (fsmSteps s).adc = s.adc := by
  simp [fsmSteps]
@[simp] theorem fsmSteps_tickInit (s : State) : (fsmSteps s).tickInit = s.tickInit := by
  simp [fsmSteps]
@[simp] theorem fsmSteps_inbox (s : State) : (fsmSteps s).inbox = s.inbox := by
  simp [fsmSteps]
@[simp] theorem fsmSteps_choices (s : State) : (fsmSteps s).choices = s.choices := by
  simp [fsmSteps]

/-! `fsmInit` -/

@[simp] theorem fsmInit_cfg (s : State) : (fsmInit s).cfg = s.cfg := rfl
@[simp] theorem fsmInit_vin (s : State) : (fsmInit s).vin = seedChannel s.cfg 0 s.vin := rfl
@[simp] theorem fsmInit_iin (s : State) : (fsmInit s).iin = seedChannel s.cfg Config.iZero s.iin := rfl
@[simp] theorem fsmInit_vout (s : State) : (fsmInit s).vout = seedChannel s.cfg 0 s.vout := rfl
@[simp] theorem fsmInit_iout (s : State) : (fsmInit s).iout = seedChannel s.cfg Config.iZero s.iout := rfl
@[simp] theorem fsmInit_vadj (s : State) : (fsmInit s).vadj = s.vadj := rfl
@[simp] theorem fsmInit_vadjAvg (s : State) : (fsmInit s).vadjAvg = s.vadjAvg := rfl
@[simp] theorem fsmInit_ctl (s : State) : (fsmInit s).ctl = Control.reset s.cfg := rfl
@[simp] theorem fsmInit_params (s : State) : (fsmInit s).params = Params.reset s.cfg := rfl
@[simp] theorem fsmInit_geo (s : State) : (fsmInit s).geo = Geometry.default s.cfg := rfl
@[simp] theorem fsmInit_out (s : State) : (fsmInit s).out = s.out := rfl
@[simp] theorem fsmInit_state (s : State) : (fsmInit s).state = .wait := rfl
@[simp] theorem fsmInit_mode (s : State) : (fsmInit s).mode = s.cfg.modeInit := rfl
@[simp] theorem fsmInit_outEn (s : State) : (fsmInit s).outEn = false := rfl
@[simp] theorem fsmInit_fault (s : State) : (fsmInit s).fault = 0 := rfl
@[simp] theorem fsmInit_flagsNow (s : State) : (fsmInit s).flagsNow = 0 := rfl
@[simp] theorem fsmInit_mapErr (s : State) : (fsmInit s).mapErr = s.mapErr := rfl
@[simp] theorem fsmInit_cmdErr (s : State) : (fsmInit s).cmdErr = s.cmdErr := rfl
@[simp] theorem fsmInit_uSat (s : State) : (fsmInit s).uSat = false := rfl
@[simp] theorem fsmInit_pend (s : State) : (fsmInit s).pend = s.pend := rfl
@[simp] theorem fsmInit_evt (s : State) : (fsmInit s).evt = s.evt := rfl
@[simp] theorem fsmInit_ramp (s : State) : (fsmInit s).ramp = word s.cfg.minBuckDuty := rfl
@[simp] theorem fsmInit_riseCnt (s : State) : (fsmInit s).riseCnt = 0 := rfl
@[simp] theorem fsmInit_dutyAct (s : State) : (fsmInit s).dutyAct = word s.cfg.minBuckDuty := rfl
@[simp] theorem fsmInit_stg (s : State) : (fsmInit s).stg = s.stg := rfl
@[simp] theorem fsmInit_rdata (s : State) : (fsmInit s).rdata = s.rdata := rfl
@[simp] theorem fsmInit_adc (s : State) : (fsmInit s).adc = s.adc := rfl
@[simp] theorem fsmInit_tickInit (s : State) : (fsmInit s).tickInit = s.tickInit := rfl
@[simp] theorem fsmInit_inbox (s : State) : (fsmInit s).inbox = s.inbox := rfl
@[simp] theorem fsmInit_choices (s : State) : (fsmInit s).choices = s.choices := rfl

/-! `fsmStage` -/

@[simp] theorem fsmStage_cfg (s : State) : (fsmStage s).cfg = s.cfg := by
  unfold fsmStage; split <;> simp
@[simp] theorem fsmStage_vadj (s : State) : (fsmStage s).vadj = s.vadj := by
  unfold fsmStage; split <;> simp
@[simp] theorem fsmStage_vadjAvg (s : State) : (fsmStage s).vadjAvg = s.vadjAvg := by
  unfold fsmStage; split <;> simp
@[simp] theorem fsmStage_out (s : State) : (fsmStage s).out = s.out := by
  unfold fsmStage; split <;> simp
@[simp] theorem fsmStage_mapErr (s : State) : (fsmStage s).mapErr = s.mapErr := by
  unfold fsmStage; split <;> simp
@[simp] theorem fsmStage_cmdErr (s : State) : (fsmStage s).cmdErr = s.cmdErr := by
  unfold fsmStage; split <;> simp
@[simp] theorem fsmStage_pend (s : State) : (fsmStage s).pend = s.pend := by
  unfold fsmStage; split <;> simp
@[simp] theorem fsmStage_evt (s : State) : (fsmStage s).evt = s.evt := by
  unfold fsmStage; split <;> simp
@[simp] theorem fsmStage_rdata (s : State) : (fsmStage s).rdata = s.rdata := by
  unfold fsmStage; split <;> simp
@[simp] theorem fsmStage_adc (s : State) : (fsmStage s).adc = s.adc := by
  unfold fsmStage; split <;> simp
@[simp] theorem fsmStage_tickInit (s : State) : (fsmStage s).tickInit = s.tickInit := by
  unfold fsmStage; split <;> simp
@[simp] theorem fsmStage_inbox (s : State) : (fsmStage s).inbox = s.inbox := by
  unfold fsmStage; split <;> simp
@[simp] theorem fsmStage_choices (s : State) : (fsmStage s).choices = s.choices := by
  unfold fsmStage; split <;> simp

/-! `readIndex` -/

@[simp] theorem readIndex_cfg (idx : Nat) (s : State) : (readIndex idx s).cfg = s.cfg := by
  unfold readIndex; split <;> rfl
@[simp] theorem readIndex_vin (idx : Nat) (s : State) : (readIndex idx s).vin = s.vin := by
  unfold readIndex; split <;> rfl
@[simp] theorem readIndex_iin (idx : Nat) (s : State) : (readIndex idx s).iin = s.iin := by
  unfold readIndex; split <;> rfl
@[simp] theorem readIndex_vout (idx : Nat) (s : State) : (readIndex idx s).vout = s.vout := by
  unfold readIndex; split <;> rfl
@[simp] theorem readIndex_iout (idx : Nat) (s : State) : (readIndex idx s).iout = s.iout := by
  unfold readIndex; split <;> rfl
@[simp] theorem readIndex_vadj (idx : Nat) (s : State) : (readIndex idx s).vadj = s.vadj := by
  unfold readIndex; split <;> rfl
@[simp] theorem readIndex_vadjAvg (idx : Nat) (s : State) : (readIndex idx s).vadjAvg = s.vadjAvg := by
  unfold readIndex; split <;> rfl
@[simp] theorem readIndex_ctl (idx : Nat) (s : State) : (readIndex idx s).ctl = s.ctl := by
  unfold readIndex; split <;> rfl
@[simp] theorem readIndex_params (idx : Nat) (s : State) : (readIndex idx s).params = s.params := by
  unfold readIndex; split <;> rfl
@[simp] theorem readIndex_geo (idx : Nat) (s : State) : (readIndex idx s).geo = s.geo := by
  unfold readIndex; split <;> rfl
@[simp] theorem readIndex_out (idx : Nat) (s : State) : (readIndex idx s).out = s.out := by
  unfold readIndex; split <;> rfl
@[simp] theorem readIndex_state (idx : Nat) (s : State) : (readIndex idx s).state = s.state := by
  unfold readIndex; split <;> rfl
@[simp] theorem readIndex_mode (idx : Nat) (s : State) : (readIndex idx s).mode = s.mode := by
  unfold readIndex; split <;> rfl
@[simp] theorem readIndex_outEn (idx : Nat) (s : State) : (readIndex idx s).outEn = s.outEn := by
  unfold readIndex; split <;> rfl
@[simp] theorem readIndex_fault (idx : Nat) (s : State) : (readIndex idx s).fault = s.fault := by
  unfold readIndex; split <;> rfl
@[simp] theorem readIndex_flagsNow (idx : Nat) (s : State) : (readIndex idx s).flagsNow = s.flagsNow := by
  unfold readIndex; split <;> rfl
@[simp] theorem readIndex_mapErr (idx : Nat) (s : State) : (readIndex idx s).mapErr = s.mapErr := by
  unfold readIndex; split <;> rfl
@[simp] theorem readIndex_uSat (idx : Nat) (s : State) : (readIndex idx s).uSat = s.uSat := by
  unfold readIndex; split <;> rfl
@[simp] theorem readIndex_pend (idx : Nat) (s : State) : (readIndex idx s).pend = s.pend := by
  unfold readIndex; split <;> rfl
@[simp] theorem readIndex_evt (idx : Nat) (s : State) : (readIndex idx s).evt = s.evt := by
  unfold readIndex; split <;> rfl
@[simp] theorem readIndex_ramp (idx : Nat) (s : State) : (readIndex idx s).ramp = s.ramp := by
  unfold readIndex; split <;> rfl
@[simp] theorem readIndex_riseCnt (idx : Nat) (s : State) : (readIndex idx s).riseCnt = s.riseCnt := by
  unfold readIndex; split <;> rfl
@[simp] theorem readIndex_dutyAct (idx : Nat) (s : State) : (readIndex idx s).dutyAct = s.dutyAct := by
  unfold readIndex; split <;> rfl
@[simp] theorem readIndex_stg (idx : Nat) (s : State) : (readIndex idx s).stg = s.stg := by
  unfold readIndex; split <;> rfl
@[simp] theorem readIndex_adc (idx : Nat) (s : State) : (readIndex idx s).adc = s.adc := by
  unfold readIndex; split <;> rfl
@[simp] theorem readIndex_tickInit (idx : Nat) (s : State) : (readIndex idx s).tickInit = s.tickInit := by
  unfold readIndex; split <;> rfl
@[simp] theorem readIndex_inbox (idx : Nat) (s : State) : (readIndex idx s).inbox = s.inbox := by
  unfold readIndex; split <;> rfl
@[simp] theorem readIndex_choices (idx : Nat) (s : State) : (readIndex idx s).choices = s.choices := by
  unfold readIndex; split <;> rfl


end Sys2Proof.Machine
end

