-- ==== Sys2Proof/Laws/Ops.lean ====
section
/-! SUPPORT. What each shared operation can do, said once: the calibrated sample, the mapper, the inputs, and the
inversion of `step`. -/

namespace Sys2Proof.Machine

/-! ### The decoder and the dispatch -/

/-- Which stage codes are operations (30_encoding.md R101). -/
theorem decodeStage_eq (code : BitVec 3) :
    decodeStage code =
      if code = 0 then .error .idleStage else if code = 1 then .ok .latch else if code = 2 then .ok .sample
      else if code = 3 then .ok .ctrl else if code = 4 then .ok .prot else if code = 5 then .ok .fsm
      else if code = 6 then .ok .map else .error .reservedStage := by
  revert code; decide

/-- The next state of every operation: none of them stops. -/
def effect (i : Instr) (s : State) : State :=
  match i with
  | .latch => latchStage s
  | .sample => sampleStage s
  | .ctrl => ctrlStage s
  | .prot => protStage s
  | .fsm => fsmStage s
  | .map => mapStage s
  | .nop => s
  | .start => postEvent .start s
  | .ack => postEvent .ack s
  | .mode => postEvent .mode s
  | .freqUp => postEvent .freqUp s
  | .freqDn => postEvent .freqDn s
  | .dutyUp => postEvent .dutyUp s
  | .dutyDn => postEvent .dutyDn s
  | .deadUp => postEvent .deadUp s
  | .deadDn => postEvent .deadDn s
  | .rd idx => readIndex idx s

/-- Every operation has a next state, its effect. -/
theorem exec_eq_effect (i : Instr) (s : State) : exec i s = .next (effect i s) := by cases i <;> rfl

theorem next_inj {a b : State} (h : (Host.Outcome.next a : Host.Outcome State Fault Refusal) = .next b) : a = b := by
  injection h

/-! ### Inputs -/

/-- The transaction taken from the arrivals changes the arrivals and the count of free choices, nothing else. -/
theorem takeInput_frame (s : State) :
    (takeInput s).2 = { s with inbox := (takeInput s).2.inbox, choices := (takeInput s).2.choices } := by
  unfold takeInput
  split
  · rfl
  · split
    · rfl
    · split
      · rfl
      · rfl
      · rfl
      · split <;> rfl

/-- What the next transaction is, by the arrivals (20_memory.md R92). -/
theorem takeInput_cases (s : State) :
    (s.inbox = [] ∧ takeInput s = (.none, s)) ∨
    ∃ a rest, s.inbox = a :: rest ∧
      ((a.rst = true ∧ takeInput s = (.reset, { s with inbox := rest })) ∨
       (a.rst = false ∧ a.tick = none ∧ a.cmd = none ∧ takeInput s = (.none, { s with inbox := rest })) ∨
       (∃ codes, a.rst = false ∧ a.tick = some codes ∧ a.cmd = none ∧
          takeInput s = (.tick codes, { s with inbox := rest })) ∨
       (∃ w, a.rst = false ∧ a.tick = none ∧ a.cmd = some w ∧ takeInput s = (.word w, { s with inbox := rest })) ∨
       (∃ codes w, a.rst = false ∧ a.tick = some codes ∧ a.cmd = some w ∧
          (takeInput s = (.tick codes, { s with inbox := { cmd := some w } :: rest, choices := s.choices + 1 }) ∨
           takeInput s = (.word w, { s with inbox := { tick := some codes } :: rest, choices := s.choices + 1 })))) := by
  rcases hb : s.inbox with _ | ⟨⟨r, t, c⟩, rest⟩
  · left; simp [takeInput, hb]
  · right
    refine ⟨_, rest, rfl, ?_⟩
    cases r
    · cases t <;> cases c <;> simp [takeInput, hb]
    · simp [takeInput, hb]

/-! ### The fetch -/

/-- With a valid configuration and a stage to run, the fetch runs it. -/
theorem fetch_stage {s : State} {i : Instr} (hw : s.cfg.WellFormed) (h : decodeStage s.stg = .ok i) :
    fetch s = .run i s := by simp [fetch, hw, h]

/-- With a valid configuration and the sequencer idle, the fetch takes the next transaction. -/
theorem fetch_idle {s : State} (hw : s.cfg.WellFormed) (h : s.stg = 0) :
    fetch s = startInput (takeInput s).1 (takeInput s).2 := by
  have : decodeStage s.stg = .error .idleStage := by rw [h]; rfl
  simp [fetch, hw, this]

/-- A configuration that breaks 00_scope.md R9 has no operation to run. -/
theorem fetch_invalid {s : State} (hw : ¬ s.cfg.WellFormed) : fetch s = .refuse .invalidConfig := by
  simp only [Cfg.WellFormed, Bool.not_eq_true] at hw
  simp [fetch, hw]

/-! ### The step -/

/-- The three ways of a step that has a next state: the stage named by `STG`, an input with no operation, a host
word. -/
theorem step_cases {s t : State} (h : step s = .next t) :
    s.cfg.WellFormed ∧
    ((∃ i, decodeStage s.stg = .ok i ∧ t = effect i s) ∨
     (s.stg = 0 ∧
       (((takeInput s).1 = .none ∧ t = (takeInput s).2) ∨
        ((takeInput s).1 = .reset ∧ t = resetEvent (takeInput s).2) ∨
        (∃ codes, (takeInput s).1 = .tick codes ∧ t = tickEvent codes (takeInput s).2) ∨
        (∃ w i, (takeInput s).1 = .word w ∧ decodeHost w = .ok i ∧ t = effect i (takeInput s).2) ∨
        (∃ w e, (takeInput s).1 = .word w ∧ decodeHost w = .error e ∧ t = reservedWord (takeInput s).2)))) := by
  by_cases hw : s.cfg.WellFormed
  · refine ⟨hw, ?_⟩
    rw [step, fetch, if_pos hw] at h
    rcases hd : decodeStage s.stg with e | i
    · have hidle : e = .idleStage ∧ s.stg = 0 ∨ e = .reservedStage := by
        rw [decodeStage_eq] at hd; split_ifs at hd <;> cases hd <;> simp_all
      rcases hidle with ⟨rfl, h0⟩ | rfl
      · simp only [hd] at h
        refine .inr ⟨h0, ?_⟩
        rcases hi : (takeInput s).1 with _ | _ | codes | w
        · simp only [hi, startInput] at h
          exact .inl ⟨rfl, (next_inj h).symm⟩
        · simp only [hi, startInput] at h
          exact .inr (.inl ⟨rfl, (next_inj h).symm⟩)
        · simp only [hi, startInput] at h
          exact .inr (.inr (.inl ⟨codes, rfl, (next_inj h).symm⟩))
        · simp only [hi, startInput] at h
          rcases hh : decodeHost w with e | i
          · simp only [hh] at h
            exact .inr (.inr (.inr (.inr ⟨w, e, rfl, hh, (next_inj h).symm⟩)))
          · simp only [hh, exec_eq_effect] at h
            exact .inr (.inr (.inr (.inl ⟨w, i, rfl, hh, (next_inj h).symm⟩)))
      · simp [hd] at h
    · simp only [hd, exec_eq_effect] at h
      exact .inl ⟨i, rfl, (next_inj h).symm⟩
  · rw [step, fetch_invalid hw] at h
    cases h

/-- Inside a tick the outside sees nothing (20_memory.md R91). -/
theorem ports_of_busy {s : State} (h : s.stg ≠ 0) : s.ports = none := if_neg h

/-- Between transactions the ports are there, with `STATUS` whole (20_memory.md R81). -/
theorem ports_of_idle {s : State} (h : s.stg = 0) : ∃ p, s.ports = some p ∧ p.status = statusWord s :=
  ⟨_, if_pos h, rfl⟩

end Sys2Proof.Machine
end

