-- ==== Sys2Proof/Laws/Fsm.lean ====
section
/-! SUPPORT. The steps of `FSM` one by one: when a tick trips, which transition is taken, when the mode toggles, what the
step events can change. -/

namespace Sys2Proof.Machine

/-- The states a trip is taken from. -/
theorem isActive_iff (c : ConvState) : isActive c = true ↔ Active c := by
  cases c <;> simp [isActive, Active]

/-- A tick trips from an active state with a fault latched (44_state_machine.md R201 step 2). -/
theorem trips_iff (s : State) : trips s = true ↔ Active s.state ∧ s.fault ≠ 0 := by
  rw [trips, Bool.and_eq_true, isActive_iff, decide_eq_true_eq]

/-- The same, of the state before the latch. -/
theorem trips_latchFault (s : State) : trips (latchFault s) = true ↔ Active s.state ∧ latchedFault s ≠ 0 :=
  trips_iff _

/-- No trip with no fault latched. -/
theorem trips_false_of_fault {s : State} (h : latchedFault s = 0) : trips (latchFault s) = false := by
  rw [← Bool.not_eq_true, trips_latchFault]; exact fun k => k.2 h

/-- No trip outside the active states. -/
theorem trips_false_of_state {s : State} (h : ¬ Active s.state) : trips (latchFault s) = false := by
  rw [← Bool.not_eq_true, trips_latchFault]; exact fun k => h k.1

/-- Outside `Init` the steps 1 to 6 run. -/
theorem fsmStage_of_ne {s : State} (h : s.state ≠ .init) : fsmStage s = { fsmSteps s with stg := 6 } := by
  rw [fsmStage, if_neg h]

/-- In `Init` the load runs. -/
theorem fsmStage_of_init {s : State} (h : s.state = .init) : fsmStage s = { fsmInit s with stg := 6 } := by
  rw [fsmStage, if_pos h]

/-- A transition is the trip, the start, the acknowledge, or none (R202 to R207). -/
theorem transition_cases (s : State) :
    (trips s = true ∧ transition s = enterErr s) ∨
    (trips s = false ∧ s.state = .wait ∧ s.evt.getLsbD 0 = true ∧ transition s = enterRise s) ∨
    (trips s = false ∧ s.state = .err ∧ s.evt.getLsbD 1 = true ∧ transition s = leaveErr s) ∨
    (trips s = false ∧ ¬ (s.state = .wait ∧ s.evt.getLsbD 0 = true) ∧ ¬ (s.state = .err ∧ s.evt.getLsbD 1 = true) ∧
      transition s = s) := by
  cases ht : trips s
  · cases hs : s.state
    case wait => cases h : s.evt.getLsbD 0 <;> simp [transition, ht, hs, hasEvent, Event.num, h, -BitVec.getLsbD_eq_getElem]
    case err => cases h : s.evt.getLsbD 1 <;> simp [transition, ht, hs, hasEvent, Event.num, h, -BitVec.getLsbD_eq_getElem]
    all_goals simp [transition, ht, hs]
  · simp [transition, ht]

/-- The mode toggles when the event is there, the tick started in an active state and does not trip (R209). -/
theorem toggleIf_cases (entry : ConvState) (trip : Bool) (s : State) :
    (s.evt.getLsbD 2 = true ∧ Active entry ∧ trip = false ∧ toggleIf entry trip s = toggleMode s) ∨
    (¬ (s.evt.getLsbD 2 = true ∧ Active entry ∧ trip = false) ∧ toggleIf entry trip s = s) := by
  have h : (hasEvent s .mode && isActive entry && !trip) = true ↔
      s.evt.getLsbD 2 = true ∧ Active entry ∧ trip = false := by
    rw [Bool.and_eq_true, Bool.and_eq_true, isActive_iff, Bool.not_eq_true', and_assoc]; rfl
  by_cases k : s.evt.getLsbD 2 = true ∧ Active entry ∧ trip = false
  · exact .inl ⟨k.1, k.2.1, k.2.2, by rw [toggleIf, if_pos (h.2 k)]⟩
  · exact .inr ⟨k, by rw [toggleIf, if_neg (fun c => k (h.1 c))]⟩

/-- The ramp step runs in a tick that started in `Rise` and does not trip (R218). -/
theorem rampIf_cases (entry : ConvState) (trip : Bool) (s : State) :
    (entry = .rise ∧ trip = false ∧ rampIf entry trip s = rampStep s) ∨
    (¬ (entry = .rise ∧ trip = false) ∧ rampIf entry trip s = s) := by
  cases trip <;> cases entry <;> simp [rampIf]

/-- A step event changes the requested geometry at most. -/
theorem onEvent_geo {e : Event} {f : State → State} (hf : ∀ s, f s = { s with geo := (f s).geo }) (s : State) :
    onEvent e f s = { s with geo := (onEvent e f s).geo } := by
  unfold onEvent; split
  · exact hf s
  · rfl

/-- The step events change the requested geometry at most (R211). -/
theorem stepEvents_eq (s : State) : stepEvents s = { s with geo := (stepEvents s).geo } := by
  apply State.ext <;> simp

/-- No step event changes the half-period (R211). -/
@[simp] theorem stepEvents_half (s : State) : (stepEvents s).geo.half = s.geo.half := by
  have h : ∀ (e : Event) (f : State → State) (s : State), (∀ s, (f s).geo.half = s.geo.half) →
      (onEvent e f s).geo.half = s.geo.half := by
    intro e f s hf; unfold onEvent; split
    · exact hf s
    · rfl
  unfold stepEvents; split
  · unfold applySteps
    iterate 6 rw [h _ _ _ (by intro s; rfl)]
  · rfl

/-- Without an event, or in `CloseLoop`, the geometry stays (R211). -/
theorem stepEvents_geo_eq {s : State} (h : s.mode = .closeLoop ∨ NoStepEvent s) : (stepEvents s).geo = s.geo := by
  rcases h with h | h
  · simp [stepEvents, h]
  · have k : ∀ v : BitVec 9, v &&& 0x1F8#9 = 0 → v.getLsbD 3 = false ∧ v.getLsbD 4 = false ∧ v.getLsbD 5 = false ∧
        v.getLsbD 6 = false ∧ v.getLsbD 7 = false ∧ v.getLsbD 8 = false := by decide
    obtain ⟨a, b, c, d, e, f⟩ := k _ h
    have o : applySteps s = s := by
      simp only [applySteps, onEvent, hasEvent, Event.num, a, b, c, d, e, f, Bool.false_eq_true, if_false]
    unfold stepEvents; split
    · rw [o]
    · rfl

end Sys2Proof.Machine
end

