-- ==== Sys2Proof/Laws/PerInstr.lean ====
section
/-! SUPPORT. Family `TableRow`: the encoding of an instruction has the fixed bits of its row of spec/opcode_table.json, one
lemma per constructor. -/

namespace Sys2Proof.Laws.TableRow

open Sys2Proof

/-- A well-formed instruction is encoded in a word of its own row. -/
def Statement (i : Instr) : Prop := i.WellFormed → i.row.Matches (encode i)

theorem latch : Statement .latch := fun _ => by decide
theorem sample : Statement .sample := fun _ => by decide
theorem ctrl : Statement .ctrl := fun _ => by decide
theorem prot : Statement .prot := fun _ => by decide
theorem fsm : Statement .fsm := fun _ => by decide
theorem map : Statement .map := fun _ => by decide
theorem nop : Statement .nop := fun _ => by decide
theorem start : Statement .start := fun _ => by decide
theorem ack : Statement .ack := fun _ => by decide
theorem mode : Statement .mode := fun _ => by decide
theorem freqUp : Statement .freqUp := fun _ => by decide
theorem freqDn : Statement .freqDn := fun _ => by decide
theorem dutyUp : Statement .dutyUp := fun _ => by decide
theorem dutyDn : Statement .dutyDn := fun _ => by decide
theorem deadUp : Statement .deadUp := fun _ => by decide
theorem deadDn : Statement .deadDn := fun _ => by decide

theorem rd (idx : Nat) : Statement (.rd idx) := by
  intro h
  have hi : idx < 256 := h
  refine ⟨rfl, ?_⟩
  have e : (0x2000#16 + BitVec.ofNat 16 idx).toNat = 2 ^ 8 * 32 + idx := by
    rw [BitVec.toNat_add, BitVec.toNat_ofNat, BitVec.toNat_ofNat]; omega
  show (0x2000#16 + BitVec.ofNat 16 idx).toNat &&& 0xFF00 = 8192
  rw [e, Nat.two_pow_add_eq_or_of_lt hi, Nat.and_or_distrib_right]
  have z : idx &&& 0xFF00 = 0 := by
    apply Nat.eq_of_testBit_eq
    intro j
    rw [Nat.testBit_and, Nat.zero_testBit]
    by_cases hj : j < 8
    · have : Nat.testBit 0xFF00 j = false := by interval_cases j <;> rfl
      rw [this, Bool.and_false]
    · rw [Nat.testBit_lt_two_pow (lt_of_lt_of_le hi (Nat.pow_le_pow_right (n := 2) (by decide) (not_lt.1 hj))), Bool.false_and]
  rw [z]; rfl

end Sys2Proof.Laws.TableRow
end

