-- ==== Sys2Proof/Laws/Stages.lean ====
section
/-! SUPPORT. What each operation shared by the stages can do, said once: the calibrated sample, the moving average, the
accumulator, the comparator flags and the mapper. -/

namespace Sys2Proof.Machine

/-! ### The stage pointer (10_state.md R45) -/

@[simp] theorem sampleStage_stg (s : State) : (sampleStage s).stg = 3 := rfl
@[simp] theorem ctrlStage_stg (s : State) : (ctrlStage s).stg = 4 := rfl
@[simp] theorem protStage_stg (s : State) : (protStage s).stg = 5 := rfl
@[simp] theorem fsmStage_stg (s : State) : (fsmStage s).stg = 6 := rfl
@[simp] theorem mapStage_stg (s : State) : (mapStage s).stg = 0 := rfl
@[simp] theorem mapStage_tickInit (s : State) : (mapStage s).tickInit = false := rfl

/-! ### The sampler -/

/-- The calibrated value of a 12-bit code (40_sampler.md R131). -/
theorem calibrate_bounds {cal : Cal} {raw : Word} (hc : cal.WellFormed) (hr : uval raw ≤ 4095) :
    -32768 ≤ calibrate cal raw ∧ calibrate cal raw ≤ 98286 := by
  obtain ⟨⟨k0, k1⟩, b0, b1⟩ := hc
  have h0 := uval_nonneg raw
  have m0 : 0 ≤ uval raw * cal.k := Int.mul_nonneg h0 k0
  have m1 : uval raw * cal.k ≤ 4095 * 65535 := by nlinarith
  simp only [calibrate, Config.kShift, asr_twelve]
  omega

/-- Calibration keeps the order of the codes. -/
theorem calibrate_mono {cal : Cal} {r r' : Word} (hc : cal.WellFormed) (h : uval r ≤ uval r') :
    calibrate cal r ≤ calibrate cal r' := by
  have := asr_mono 12 (Int.mul_le_mul_of_nonneg_right h hc.1.1)
  simp only [calibrate, Config.kShift]
  omega

/-- The voltage clamp below and at its floor. -/
theorem floorVoltage_spec (v0 : Int) :
    (v0 < 100 → floorVoltage v0 = 0) ∧ (100 ≤ v0 → floorVoltage v0 = v0) := by
  unfold floorVoltage Config.vFloor; split_ifs <;> omega

/-- The current clamp below and at its floor. -/
theorem floorCurrent_spec (v0 : Int) :
    (v0 < 2048 → floorCurrent v0 = 2048) ∧ (2048 ≤ v0 → floorCurrent v0 = v0) := by
  unfold floorCurrent Config.iZero; split_ifs <;> omega

/-- The new running sum, and the bound it keeps (R134, 10_state.md R50 (c)). -/
theorem uval_nextSum {sum : Word} {v : Int} (hs : uval sum ≤ 393147) (hv0 : 0 ≤ v) (hv : v ≤ 98286) :
    uval (nextSum sum v) = uval sum + v - uval sum / 4 ∧ uval (nextSum sum v) ≤ 393147 := by
  have h0 := uval_nonneg sum
  have h : uval (nextSum sum v) = uval sum + v - uval sum / 4 := by
    simp only [nextSum, Config.avgShift, asr_two]
    exact uval_word (by omega) (by omega)
  exact ⟨h, by omega⟩

/-- A quarter of a register fits a register. -/
theorem uval_quarter (w : Word) : uval (word (asr (uval w) 2)) = uval w / 4 := by
  have h0 := uval_nonneg w
  have h1 := uval_lt w
  exact uval_word (by rw [asr_two]; omega) (by rw [asr_two]; omega)

/-- The whole effect of the moving average on one channel (R134). -/
theorem updateChannel_spec {ch : Channel} {v : Int} (hs : uval ch.sum ≤ 393147) (hv0 : 0 ≤ v) (hv : v ≤ 98286) :
    (updateChannel ch v).raw = ch.raw ∧ sval (updateChannel ch v).val = v ∧
    uval (updateChannel ch v).sum = uval ch.sum + v - uval ch.sum / 4 ∧
    uval (updateChannel ch v).sum ≤ 393147 ∧
    uval (updateChannel ch v).avg = uval (updateChannel ch v).sum / 4 :=
  ⟨rfl, sval_word (by omega) (by omega), (uval_nextSum hs hv0 hv).1, (uval_nextSum hs hv0 hv).2, uval_quarter _⟩

/-! ### The compensator -/

/-- The accumulator's saturated value lies in 32 bits (41_control_law.md R152). -/
theorem ctrlOut_mem (s : State) : -2147483648 ≤ ctrlOut s ∧ ctrlOut s ≤ 2147483647 := sat32_mem _

/-- The duty command is within its limits whatever the history (R154, R155). -/
theorem ctrlDuty_mem {s : State} (h : s.cfg.minBuckDuty ≤ uval s.params.buckMaxDuty) :
    s.cfg.minBuckDuty ≤ ctrlDuty s ∧ ctrlDuty s ≤ uval s.params.buckMaxDuty := by
  have := clamp_mem (x := asr (ctrlOut s) Config.bShift) h
  unfold ctrlDuty
  split_ifs <;> omega

/-! ### The comparators -/

/-- Each flag stands at its own bit (43_protection.md R193). -/
theorem getLsbD_flagSet (a b c d e f : Bool) :
    (flagSet a b c d e f).getLsbD 0 = a ∧ (flagSet a b c d e f).getLsbD 1 = b ∧ (flagSet a b c d e f).getLsbD 2 = c ∧
    (flagSet a b c d e f).getLsbD 3 = d ∧ (flagSet a b c d e f).getLsbD 4 = e ∧ (flagSet a b c d e f).getLsbD 5 = f := by
  revert a b c d e f; decide

/-! ### The mapper -/

/-- The mapper rejects on exactly the six conditions (42_pwm_mapper.md R171). -/
theorem mapRejects_iff (g : MapInput) :
    mapRejects g = true ↔
      g.period ≤ 0 ∨ g.dead < 0 ∨ g.dead ≥ g.half ∨ g.duty ≤ 0 ∨ g.duty ≥ g.half ∨
      g.half * g.period / 16000 < g.dead := by
  simp only [mapRejects, Bool.or_eq_true, decide_eq_true_eq, or_assoc]
  rw [scaled_eq]

/-- The seven values of an accepted tuple of 16-bit fields (R173 to R175). -/
theorem mapOutputs_spec {g : MapInput} (hp : 0 ≤ g.period ∧ g.period ≤ 65535) (hh : 0 ≤ g.half ∧ g.half ≤ 65535)
    (hu : 0 ≤ g.duty ∧ g.duty ≤ 65535) (hd : 0 ≤ g.dead) (hs : g.dead ≤ g.half * g.period / 16000) :
    uval (mapOutputs g).period = g.period ∧ uval (mapOutputs g).mcmp1 = g.half * g.period / 16000 ∧
    uval (mapOutputs g).aRst = g.half * g.period / 16000 - g.dead ∧
    uval (mapOutputs g).aDuty = g.duty * g.period / 16000 ∧ (mapOutputs g).bRst = (mapOutputs g).aRst ∧
    (mapOutputs g).bDuty = (mapOutputs g).aDuty ∧
    uval (mapOutputs g).adcTrig = (g.half * g.period / 16000 - g.dead) / 2 ∧
    g.half * g.period / 16000 ≤ 268427 ∧ g.duty * g.period / 16000 ≤ 268427 := by
  have a0 := scaled_nonneg hh.1 hp.1
  have a1 := scaled_le hh.1 hh.2 hp.2
  have b0 := scaled_nonneg hu.1 hp.1
  have b1 := scaled_le hu.1 hu.2 hp.2
  simp only [scaled_eq] at a0 a1 b0 b1
  refine ⟨uval_word hp.1 (by omega), uval_word a0 ?_, uval_word ?_ ?_, uval_word b0 ?_, rfl, rfl, uval_word ?_ ?_,
    a1, b1⟩ <;>
  simp only [scaled_eq, legAReset, asr_one] <;> omega

end Sys2Proof.Machine
end

