-- ==== Sys2Proof/Laws/Step.lean ====
section
/-! SUPPORT. What one step can do, said once: the inversion of `step` by the transaction or the stage it runs. -/

namespace Sys2Proof.Machine

/-- Which stage codes name which operation (30_encoding.md R101). -/
theorem decodeStage_cases {code : BitVec 3} {i : Instr} (h : decodeStage code = .ok i) :
    (code = 1 ∧ i = .latch) ∨ (code = 2 ∧ i = .sample) ∨ (code = 3 ∧ i = .ctrl) ∨ (code = 4 ∧ i = .prot) ∨
    (code = 5 ∧ i = .fsm) ∨ (code = 6 ∧ i = .map) := by
  rw [decodeStage_eq] at h
  split_ifs at h <;> cases h <;> simp_all

/-- A host word is `NOP`, a post or a read (30_encoding.md R103 to R105). -/
theorem decodeHost_cases {w : BitVec 16} {i : Instr} (h : decodeHost w = .ok i) :
    i = .nop ∨ (∃ e, i = .post e) ∨ ∃ idx, i = .rd idx := by
  simp only [decodeHost, decodeFields] at h
  by_cases h1 : 3 ≤ bitField w 15 12
  · rw [if_pos h1] at h; cases h
  rw [if_neg h1] at h
  by_cases h2 : bitField w 11 8 ≠ 0
  · rw [if_pos h2] at h; cases h
  rw [if_neg h2] at h
  split at h
  · by_cases h3 : bitField w 7 0 = 0
    · rw [if_pos h3] at h; cases h; exact .inl rfl
    · rw [if_neg h3] at h; cases h
  · rcases he : decodeEvent (bitField w 7 0) with _ | e
    · rw [he] at h; cases h
    · rw [he] at h; cases h; exact .inr (.inl ⟨e, rfl⟩)
  · cases h; exact .inr (.inr ⟨_, rfl⟩)

/-- A post sets its bit (45_host_commands.md R241). -/
theorem effect_post (e : Event) (s : State) : effect (.post e) s = postEvent e s := by cases e <;> rfl

/-- What a host word can change (20_memory.md R90). -/
theorem effect_host {w : BitVec 16} {i : Instr} (h : decodeHost w = .ok i) (s : State) :
    effect i s =
      { s with pend := (effect i s).pend, rdata := (effect i s).rdata, cmdErr := (effect i s).cmdErr } ∧
    (s.cmdErr = true → (effect i s).cmdErr = true) := by
  rcases decodeHost_cases h with rfl | ⟨e, rfl⟩ | ⟨idx, rfl⟩
  · exact ⟨rfl, id⟩
  · rw [effect_post]; exact ⟨rfl, id⟩
  · simp only [effect]; unfold readIndex; split
    · exact ⟨rfl, id⟩
    · exact ⟨rfl, fun _ => rfl⟩

/-- A step runs one stage, resets, starts a tick, or takes at most a host word, which writes the mailbox, the read port
and `CMDERR` only. -/
theorem step_inversion {s t : State} (h : step s = .next t) :
    s.cfg.WellFormed ∧
    ((s.stg = 1 ∧ t = latchStage s) ∨ (s.stg = 2 ∧ t = sampleStage s) ∨ (s.stg = 3 ∧ t = ctrlStage s) ∨
     (s.stg = 4 ∧ t = protStage s) ∨ (s.stg = 5 ∧ t = fsmStage s) ∨ (s.stg = 6 ∧ t = mapStage s) ∨
     (s.stg = 0 ∧ (takeInput s).1 = .reset ∧ t = resetEvent (takeInput s).2) ∨
     (s.stg = 0 ∧ ∃ codes, (takeInput s).1 = .tick codes ∧ t = tickEvent codes (takeInput s).2) ∨
     (s.stg = 0 ∧
       t = { s with pend := t.pend, rdata := t.rdata, cmdErr := t.cmdErr, inbox := t.inbox, choices := t.choices } ∧
       (s.cmdErr = true → t.cmdErr = true))) := by
  obtain ⟨hw, h⟩ := step_cases h
  refine ⟨hw, ?_⟩
  have tf := takeInput_frame s
  rcases h with ⟨i, hi, rfl⟩ | ⟨h0, h⟩
  · rcases decodeStage_cases hi with ⟨a, rfl⟩ | ⟨a, rfl⟩ | ⟨a, rfl⟩ | ⟨a, rfl⟩ | ⟨a, rfl⟩ | ⟨a, rfl⟩ <;>
    simp [a, effect]
  · rcases h with ⟨_, rfl⟩ | ⟨a, rfl⟩ | ⟨c, a, rfl⟩ | ⟨w, i, _, hd, rfl⟩ | ⟨w, e, _, hd, rfl⟩
    · refine .inr (.inr (.inr (.inr (.inr (.inr (.inr (.inr ⟨h0, ?_, ?_⟩)))))))
      · rw [tf]
      · rw [tf]; exact id
    · exact .inr (.inr (.inr (.inr (.inr (.inr (.inl ⟨h0, a, rfl⟩))))))
    · exact .inr (.inr (.inr (.inr (.inr (.inr (.inr (.inl ⟨h0, c, a, rfl⟩)))))))
    · refine .inr (.inr (.inr (.inr (.inr (.inr (.inr (.inr ⟨h0, ?_, ?_⟩)))))))
      · rw [(effect_host hd (takeInput s).2).1, tf]
      · have := (effect_host hd (takeInput s).2).2
        rw [tf] at this ⊢; exact this
    · refine .inr (.inr (.inr (.inr (.inr (.inr (.inr (.inr ⟨h0, ?_, ?_⟩)))))))
      · rw [tf]; rfl
      · exact fun _ => rfl

end Sys2Proof.Machine
end

