-- ==== Sys2Proof/Tests/Slice0.lean ====
section
/-! SUPPORT. Tests of one step each, against the vectors of spec/95_test_vectors.md and the words of spec/30_encoding.md,
the refusals of WellFormed, and a witness for every statement that has hypotheses. -/

namespace Sys2Proof.Tests

open Sys2Proof Sys2Proof.Machine

/-! ### WellFormed refuses ill-formed terms (00_scope.md R8, R9) -/

/-- `RD` has an 8-bit index (45_host_commands.md R251). -/
theorem test_wf_index : ¬ (Instr.rd 256).WellFormed ∧ (Instr.rd 255).WellFormed := by decide

/-- The reference configuration is well formed. -/
theorem test_wf_cfgT : Cfg.cfgT.WellFormed := by decide

/-- One field at a time just outside its range: the sampler parameters. -/
theorem test_wf_sampler : ∀ c ∈
    [{ Cfg.cfgT with calVin := { k := 65536, b := 0 } }, { Cfg.cfgT with calIin := { k := -1, b := 0 } },
     { Cfg.cfgT with calVout := { k := 0, b := 32768 } }, { Cfg.cfgT with calIout := { k := 0, b := -32769 } },
     { Cfg.cfgT with avgSeed := 65536 }], ¬ c.WellFormed := by decide

/-- The compensator parameters, and `MIN_BUCK_DUTY > BUCK_MAX_DUTY_INIT`. -/
theorem test_wf_control : ∀ c ∈
    [{ Cfg.cfgT with pidB0 := 32768 }, { Cfg.cfgT with pidB1 := -32769 }, { Cfg.cfgT with pidB2 := 32768 },
     { Cfg.cfgT with minBuckDuty := 0 }, { Cfg.cfgT with minBuckDuty := 7201 },
     { Cfg.cfgT with buckMaxDutyInit := 65536 }, { Cfg.cfgT with boostMaxDutyInit := 65536 },
     { Cfg.cfgT with boostDutyFixed := -1 }, { Cfg.cfgT with vorefInit := 65536 },
     { Cfg.cfgT with iorefInit := -1 }, { Cfg.cfgT with ilimitInit := 65536 },
     { Cfg.cfgT with ilimitOutInit := 65536 }], ¬ c.WellFormed := by decide

/-- The protection thresholds. -/
theorem test_wf_thresholds : ∀ c ∈
    [{ Cfg.cfgT with vinUvpTh := -1 }, { Cfg.cfgT with vinOvpTh := 2147483648 },
     { Cfg.cfgT with voutUvpTh := -1 }, { Cfg.cfgT with voutOvpTh := 2147483648 },
     { Cfg.cfgT with ioutOcpTh := 2147483648 }, { Cfg.cfgT with shortTh := -1 }], ¬ c.WellFormed := by decide

/-- The default geometry, the step clamps with `*_MIN > *_MAX`, the step sizes. -/
theorem test_wf_geometry : ∀ c ∈
    [{ Cfg.cfgT with defPeriod := 0 }, { Cfg.cfgT with defHalf := 65536 }, { Cfg.cfgT with defDuty := 0 },
     { Cfg.cfgT with defDead := -1 }, { Cfg.cfgT with periodMin := 22858 }, { Cfg.cfgT with periodMin := 0 },
     { Cfg.cfgT with periodMax := 65536 }, { Cfg.cfgT with dutyMin := 7201 }, { Cfg.cfgT with dutyMin := 0 },
     { Cfg.cfgT with dutyMax := 65536 }, { Cfg.cfgT with deadMin := 1601 }, { Cfg.cfgT with deadMin := -1 },
     { Cfg.cfgT with deadMax := 65536 }, { Cfg.cfgT with periodStep := 0 }, { Cfg.cfgT with dutyStep := 65536 },
     { Cfg.cfgT with deadStep := 0 }], ¬ c.WellFormed := by decide

/-- The soft-start parameters. -/
theorem test_wf_ramp : ∀ c ∈
    [{ Cfg.cfgT with riseStep := 0 }, { Cfg.cfgT with riseMaxCycles := 65536 }], ¬ c.WellFormed := by decide

/-! ### Decoding: every constructor, a word written out from 30_encoding.md -/

/-- Format S, the six codes of R101. -/
theorem test_decode_stages :
    decode (.stage 0b001#3) = .ok .latch ∧ decode (.stage 0b010#3) = .ok .sample ∧
    decode (.stage 0b011#3) = .ok .ctrl ∧ decode (.stage 0b100#3) = .ok .prot ∧
    decode (.stage 0b101#3) = .ok .fsm ∧ decode (.stage 0b110#3) = .ok .map ∧
    decode (.stage 0b000#3) = .error .idleStage ∧ decode (.stage 0b111#3) = .error .reservedStage := by decide

/-- Format H: `cls`, `z`, `arg` of R103 to R105. -/
theorem test_decode_host_words :
    decode (.host 0b0000_0000_00000000#16) = .ok .nop ∧ decode (.host 0b0001_0000_00000000#16) = .ok .start ∧
    decode (.host 0b0001_0000_00000001#16) = .ok .ack ∧ decode (.host 0b0001_0000_00000010#16) = .ok .mode ∧
    decode (.host 0b0001_0000_00000011#16) = .ok .freqUp ∧ decode (.host 0b0001_0000_00000100#16) = .ok .freqDn ∧
    decode (.host 0b0001_0000_00000101#16) = .ok .dutyUp ∧ decode (.host 0b0001_0000_00000110#16) = .ok .dutyDn ∧
    decode (.host 0b0001_0000_00000111#16) = .ok .deadUp ∧ decode (.host 0b0001_0000_00001000#16) = .ok .deadDn ∧
    decode (.host 0b0010_0000_00110011#16) = .ok (.rd 0x33) := by decide

/-- The reserved words of V7. -/
theorem test_decode_reserved :
    decode (.host 0x1009#16) = .error .reservedEvent ∧ decode (.host 0x0001#16) = .error .reservedNopArg ∧
    decode (.host 0x1100#16) = .error .reservedZ ∧ decode (.host 0x2130#16) = .error .reservedZ ∧
    decode (.host 0x3000#16) = .error .reservedClass ∧ decode (.host 0xFFFF#16) = .error .reservedClass := by decide

/-- The host's numbering of the opcode table: a stage code in one byte, a host word in two. -/
theorem test_decode_table_words :
    decodeTableWord 8 5 = some .fsm ∧ decodeTableWord 8 0 = none ∧ decodeTableWord 8 9 = none ∧
    decodeTableWord 16 0x1003 = some .freqUp ∧ decodeTableWord 16 0x2042 = some (.rd 0x42) ∧
    decodeTableWord 16 0x1100 = none := by decide

/-! ### States for the tests -/

/-- The reset state of `CFG_T` in a given converter state. -/
def inState (c : ConvState) : State :=
  { State.reset with state := c, outEn := decide (c = .rise ∨ c = .run) }

/-- The next state, for tests on operations that have one. -/
def after (o : Host.Outcome State Fault Refusal) : State :=
  match o with
  | .next t => t
  | .fault _ | .refused _ => State.reset

/-- The four values of a geometry. -/
def tuple (g : Geometry) : List Nat := [g.period.toNat, g.half.toNat, g.duty.toNat, g.dead.toNat]

/-- The seven values of a descriptor. -/
def seven (d : Descriptor) : List Nat :=
  [d.period.toNat, d.mcmp1.toNat, d.aRst.toNat, d.aDuty.toNat, d.bRst.toNat, d.bDuty.toNat, d.adcTrig.toNat]

/-! ### Reset (10_state.md R49 with CFG_T) -/

theorem test_reset_status : Reg.status.read State.reset = 0 ∧ uval State.reset.vin.sum = 8192 := by decide

/-! ### LATCH (44_state_machine.md R200, its example) -/

theorem test_latch_snapshot :
    (after (exec .latch { State.reset with pend := 0x005 })).evt = 0x005 ∧
    (after (exec .latch { State.reset with pend := 0x005 })).pend = 0 := by decide

theorem test_latch_codes :
    (after (exec .latch { State.reset with adc := { vin := 1, iin := 2, vout := 3, iout := 4095 } })).iout.raw = 4095 := by
  decide

/-! ### SAMPLE (V1 and the worked example of 40_sampler.md) -/

theorem test_sample_worked_example :
    let t := after (exec .sample { inState .run with vin := { State.reset.vin with raw := 2048 } })
    uval t.vin.val = 2099 ∧ uval t.vin.sum = 8243 ∧ uval t.vin.avg = 2060 := by decide

/-- V1: 50 is below the floor, 51 is at it; a current below 2048 is 2048. -/
theorem test_sample_clamps :
    sval (sampleVoltage Cfg.cfgT.calVin { State.reset.vin with raw := 50 }).val = 0 ∧
    sval (sampleVoltage Cfg.cfgT.calVin { State.reset.vin with raw := 51 }).val = 100 ∧
    sval (sampleCurrent Cfg.cfgT.calIin { State.reset.iin with raw := 2047 }).val = 2048 ∧
    sval (sampleVoltage { k := 4096, b := -150 } { State.reset.vin with raw := 100 }).val = 0 := by decide

/-! ### CTRL (V3) -/

theorem test_ctrl_worked_example :
    let t := after (exec .ctrl { inState .run with
      vout := { State.reset.vout with val := 1900 }
      ctl := { err1 := 80, err2 := 60, u1 := 512000, buckDuty := 0 } })
    uval t.ctl.buckDuty = 2020 ∧ sval t.ctl.err2 = 80 ∧ sval t.ctl.err1 = 100 ∧ sval t.ctl.u1 = 517200 := by decide

/-- V3: the accumulator saturates low, the duty is the minimum, `U_SAT` is set. -/
theorem test_ctrl_saturates :
    let t := after (exec .ctrl { inState .run with
      vout := { State.reset.vout with val := 4095 }
      ctl := { err1 := 0, err2 := 0, u1 := word (-2147483000), buckDuty := 0 } })
    uval t.ctl.buckDuty = 160 ∧ sval t.ctl.u1 = -2147483648 ∧ t.uSat = true := by decide

/-! ### PROT (V4) -/

/-- Four flags at once, and values equal to their thresholds set none. -/
theorem test_prot_flags :
    let at4 := fun a b c d : Word => (after (exec .prot { inState .run with
      vin := { State.reset.vin with avg := a }
      vout := { State.reset.vout with avg := b }
      iout := { State.reset.iout with avg := c, val := d } })).flagsNow
    at4 499 3501 3501 3901 = 0x39 ∧ at4 500 3500 3500 3900 = 0x00 ∧ at4 3801 0 2048 2048 = 0x02 := by decide

/-! ### FSM (V6) -/

/-- V6 row 2: `START` and `MODE` in `Wait`. -/
theorem test_fsm_start_and_mode :
    let t := after (exec .fsm { inState .wait with evt := 0x005 })
    t.state = .rise ∧ t.mode = .closeLoop ∧ t.outEn = true ∧ uval t.dutyAct = 160 := by decide

/-- V6 rows 14 and 18: the period at its clamp edge; the bound on the ramp. -/
theorem test_fsm_steps_and_ramp :
    tuple (after (exec .fsm { inState .run with
      evt := 0x018, geo := { period := 12308, half := 8000, duty := 7200, dead := 320 } })).geo
      = [12468, 8000, 7200, 320] ∧
    (after (exec .fsm { inState .rise with ramp := 160, riseCnt := 15 })).state = .run ∧
    uval (after (exec .fsm { inState .rise with ramp := 160, riseCnt := 15 })).dutyAct = 7680 := by decide

/-! ### MAP (V5) -/

/-- The scenario of the source (E1), and the largest values. -/
theorem test_map_scenario :
    seven (mapOutputs { period := 16000, half := 8000, duty := 7680, dead := 360 })
      = [16000, 8000, 7640, 7680, 7640, 7680, 3820] ∧
    seven (after (exec .map { inState .run with
      geo := { period := 65535, half := 65535, duty := 1, dead := 65534 }, dutyAct := 65534 })).out
      = [65535, 268427, 202893, 268423, 202893, 268423, 101446] := by decide

/-- `scaled(8000) = 4000 < 4001` is rejected, the outputs keep their values. -/
theorem test_map_rejects :
    let t := after (exec .map { inState .run with
      geo := { period := 8000, half := 8000, duty := 7680, dead := 4001 }, dutyAct := 100 })
    t.mapErr = true ∧ t.out = Descriptor.zero := by decide

/-! ### Host words (V7) -/

theorem test_nop : after (exec .nop State.reset) = State.reset := by decide

theorem test_posts :
    (after (exec .start State.reset)).pend = 0x001 ∧ (after (exec .ack State.reset)).pend = 0x002 ∧
    (after (exec .mode State.reset)).pend = 0x004 ∧ (after (exec .freqUp State.reset)).pend = 0x008 ∧
    (after (exec .freqDn State.reset)).pend = 0x010 ∧ (after (exec .dutyUp State.reset)).pend = 0x020 ∧
    (after (exec .dutyDn State.reset)).pend = 0x040 ∧ (after (exec .deadUp State.reset)).pend = 0x080 ∧
    (after (exec .deadDn { State.reset with pend := 0x001 })).pend = 0x101 := by decide

theorem test_rd :
    (after (exec (.rd 0x42) State.reset)).rdata = 7680 ∧ (after (exec (.rd 0x05) State.reset)).rdata = 2048 ∧
    (after (exec (.rd 0x30) { State.reset with cmdErr := true })).rdata = 0x40 := by decide

theorem test_rd_unimplemented :
    (after (exec (.rd 0x12) { State.reset with rdata := 7 })).rdata = 0 ∧
    (after (exec (.rd 0x12) State.reset)).cmdErr = true ∧ (after (exec (.rd 0x4F) State.reset)).cmdErr = true := by decide

/-- A reserved word keeps `rdata` and sets `CMDERR`. -/
theorem test_reserved_word :
    let t := after (step { State.reset with rdata := 0x40, inbox := [{ cmd := some 0x2130 }] })
    t.cmdErr = true ∧ t.rdata = 0x40 ∧ t.pend = 0 := by decide

/-- The host's check: a table word placed for the fetch is the next operation, in the reset state. -/
theorem test_placed_words :
    step (State.reset.withFetchWord 8 1) = exec .latch (State.reset.withFetchWord 8 1) ∧
    step (State.reset.withFetchWord 16 0x1002) = exec .mode State.reset := ⟨rfl, rfl⟩

/-- The status output shows `MAP_ERR`, `CMDERR` and `U_SAT` (20_memory.md R81, 10_state.md R37). -/
theorem test_status_port :
    (State.ports { State.reset with mapErr := true, cmdErr := true, uSat := true }).map (·.status) = some 0xE0 := by
  decide

/-! ### Witnesses: for every statement with hypotheses, a concrete state and operands that meet them together -/

/-- The reset state in a converter state, with events and with a stage to run. -/
def atStage (code : BitVec 3) (c : ConvState) (evt : BitVec 9) : State := { inState c with stg := code, evt := evt }

/-- `Err` with a short circuit latched. -/
def tripped (evt : BitVec 9) : State := { atStage 5 .err evt with fault := 0x20 }

/-- The reset state with one arrival. -/
def arriving (a : Arrival) : State := { State.reset with inbox := [a] }

/-- Codes of a tick. -/
def codesOf (iout : BitVec 12) : AdcCodes := { vin := 2048, iin := 2048, vout := 0, iout := iout }

theorem inv_reset : Inv State.reset := ⟨by decide, by decide, by decide, by decide, by decide, by decide, by decide⟩
theorem inv_wait : Inv (inState .wait) := ⟨by decide, by decide, by decide, by decide, by decide, by decide, by decide⟩
theorem inv_rise : Inv (inState .rise) := ⟨by decide, by decide, by decide, by decide, by decide, by decide, by decide⟩
theorem inv_run : Inv (inState .run) := ⟨by decide, by decide, by decide, by decide, by decide, by decide, by decide⟩

theorem witness_DecodeAndEncodeAgree :
    (Instr.rd 0).WellFormed ∧ (Instr.rd 255).WellFormed ∧ decode (.host 0x20FF) = .ok (.rd 255) ∧
    decode (.stage 6) = .ok .map := by decide

theorem witness_HostWordsDecodeByClass :
    (0x0000#16).toNat = 0 ∧ (0x1000#16).toNat = 0x1000 + Event.start.num ∧
    (0x1008#16).toNat = 0x1000 + Event.deadDn.num ∧ (0x2000#16).toNat = 0x2000 + 0 ∧
    (0x20FF#16).toNat = 0x2000 + 255 ∧ (0x3000#16).toNat / 4096 ≥ 3 ∧ (0x0100#16).toNat / 256 % 16 ≠ 0 ∧
    ((0x0001#16).toNat / 4096 = 0 ∧ (0x0001#16).toNat % 256 ≠ 0) ∧
    ((0x1009#16).toNat / 4096 = 1 ∧ (0x1009#16).toNat % 256 ≥ 9) := by decide

theorem witness_OpcodeRowsDoNotOverlap :
    decode (.host 0x20FF) = .ok (.rd 255) ∧ (Instr.rd 0).row.Matches (.host 0x20FF) ∧
    decode (.stage 1) = .ok .latch ∧ Instr.latch.row.Matches (.stage 1) := by decide

theorem witness_StepRunsDecodedOperation :
    State.reset.cfg.WellFormed ∧ decode (.stage (atStage 1 .run 0).stg) = .ok .latch ∧
    decode (.stage (atStage 6 .run 0).stg) = .ok .map ∧
    (arriving { cmd := some 0x20FF }).stg = 0 ∧
    (arriving { cmd := some 0x20FF }).inbox = { cmd := some 0x20FF } :: [] ∧
    decode (.host 0x20FF) = .ok (.rd 255) := by decide

theorem witness_PlacedWordRunsNext :
    State.reset.cfg.WellFormed ∧ decodeTableWord 8 6 = some .map ∧ decodeTableWord 16 0 = some .nop ∧
    decodeTableWord 16 0x20FF = some (.rd 255) := by decide

theorem witness_ReservedWordOnlySetsCmdErr :
    (arriving { cmd := some 0x3000 }).cfg.WellFormed ∧ (arriving { cmd := some 0x3000 }).stg = 0 ∧
    (arriving { cmd := some 0x3000 }).inbox = { cmd := some 0x3000 } :: [] ∧ (0x3000#16).toNat / 4096 ≥ 3 ∧
    (0x2100#16).toNat / 256 % 16 ≠ 0 ∧ ((0x0001#16).toNat / 4096 = 0 ∧ (0x0001#16).toNat % 256 ≠ 0) ∧
    ((0x1009#16).toNat / 4096 = 1 ∧ (0x1009#16).toNat % 256 ≥ 9) := by decide

theorem witness_StepsRefusedOnlyWhereTheSpecRefuses :
    ¬ ({ State.reset with cfg := { Cfg.cfgT with riseStep := 0 } } : State).cfg.WellFormed ∧
    (atStage 7 .run 0).cfg.WellFormed ∧ (atStage 7 .run 0).stg = 7 ∧
    (atStage 6 .run 0).cfg.WellFormed ∧ (atStage 6 .run 0).stg ≠ 7 ∧ State.reset.stg ≠ 7 := by decide

theorem witness_TickRunsTheSixStagesInOrder :
    (arriving { tick := some (codesOf 0) }).cfg.WellFormed ∧ (arriving { tick := some (codesOf 0) }).stg = 0 ∧
    (arriving { tick := some (codesOf 0) }).inbox = { tick := some (codesOf 0) } :: [] := by decide

theorem witness_NothingLandsInsideATick :
    (atStage 1 .run 0).cfg.WellFormed ∧ (atStage 1 .run 0).stg ≠ 0 ∧ (atStage 1 .run 0).stg ≠ 7 ∧
    (atStage 6 .run 0).stg ≠ 0 ∧ (atStage 6 .run 0).stg ≠ 7 := by decide

theorem witness_IdleMachineHolds :
    State.reset.cfg.WellFormed ∧ State.reset.stg = 0 ∧ State.reset.inbox = [] := by decide

theorem witness_SimultaneousArrivalsRunInSomeOrder : State.reset.cfg.WellFormed ∧ State.reset.stg = 0 := by decide

theorem witness_ResetSetsEveryRegister :
    Cfg.cfgT.WellFormed ∧ ({ Cfg.cfgT with modeInit := .closeLoop } : Cfg).WellFormed ∧
    ({ tripped 0 with stg := 0, inbox := [{ rst := true, cmd := some 0x1000 }] } : State).cfg.WellFormed ∧
    ({ rst := true, cmd := some 0x1000 } : Arrival).rst = true := by decide

theorem witness_InitTickLoadsAndWaits :
    (∃ t, step { tripped 0 with stg := 0, inbox := [{ rst := true }] } = .next t ∧ t.state = .init) ∧
    (arriving { tick := some (codesOf 3) }).cfg.WellFormed ∧ (arriving { tick := some (codesOf 3) }).stg = 0 ∧
    (arriving { tick := some (codesOf 3) }).state = .init ∧
    (arriving { tick := some (codesOf 3) }).inbox = { tick := some (codesOf 3) } :: [] :=
  ⟨⟨_, rfl, rfl⟩, by decide⟩

theorem witness_StagesOfTheInitTickHaveNoEffect :
    ({ atStage 2 .init 0 with tickInit := true } : State).tickInit = true := by decide

theorem witness_FsmInInitLoadsParameters :
    (atStage 5 .init 0x1FF).cfg.WellFormed ∧ (atStage 5 .init 0x1FF).state = .init := by decide

/-- The first and the last index of every run of the map, and the indices next to them. -/
theorem witness_RdReturnsTheMappedRegister :
    (∀ idx ∈ [0x00, 0x11, 0x20, 0x2A, 0x30, 0x37, 0x40, 0x43, 0x48, 0x4E], idx < 256 ∧
      (idx ≤ 0x11 ∨ (0x20 ≤ idx ∧ idx ≤ 0x2A) ∨ (0x30 ≤ idx ∧ idx ≤ 0x37) ∨ (0x40 ≤ idx ∧ idx ≤ 0x43) ∨
        (0x48 ≤ idx ∧ idx ≤ 0x4E))) ∧
    (∀ idx ∈ [0x12, 0x1F, 0x2B, 0x2F, 0x38, 0x3F, 0x44, 0x47, 0x4F, 0xFF], idx < 256 ∧
      ¬ (idx ≤ 0x11 ∨ (0x20 ≤ idx ∧ idx ≤ 0x2A) ∨ (0x30 ≤ idx ∧ idx ≤ 0x37) ∨ (0x40 ≤ idx ∧ idx ≤ 0x43) ∨
        (0x48 ≤ idx ∧ idx ≤ 0x4E))) := by decide

theorem witness_StatusShowsItsFields :
    (arriving { cmd := some 0x2030 }).cfg.WellFormed ∧ (arriving { cmd := some 0x2030 }).stg = 0 ∧
    (arriving { cmd := some 0x2030 }).inbox = { cmd := some 0x2030 } :: [] ∧
    (inState .init).state = .init ∧ (inState .wait).state = .wait ∧ (inState .rise).state = .rise ∧
    (inState .run).state = .run ∧ (inState .err).state = .err ∧
    (Reg.status.read { inState .run with mode := .closeLoop, mapErr := true }).toNat = 0x3B := by decide

theorem witness_ReadsAreRepeatable : ({ State.reset with cmdErr := true } : State).cmdErr = true := by decide

theorem witness_HostWritesOnlyTheMailbox :
    ∃ t, (arriving { cmd := some 0x1003 }).stg = 0 ∧
      (arriving { cmd := some 0x1003 }).inbox = { cmd := some 0x1003 } :: [] ∧
      ({ cmd := some 0x1003 } : Arrival).rst = false ∧ ({ cmd := some 0x1003 } : Arrival).tick = none ∧
      step (arriving { cmd := some 0x1003 }) = .next t ∧
      ({ State.reset with pend := 1 } : State).pend.getLsbD 0 = true :=
  ⟨_, rfl, rfl, rfl, rfl, rfl, by decide⟩

theorem witness_SampleCalibratesClampsAndAverages : Inv (inState .run) ∧ (inState .run).tickInit = false :=
  ⟨inv_run, rfl⟩

/-- Codes on both sides of the voltage floor. -/
theorem witness_SampleIsMonotonicInTheCode :
    let s := { inState .run with vin := { State.reset.vin with raw := 50 } }
    let s' := { inState .run with vin := { State.reset.vin with raw := 51 } }
    s.cfg.WellFormed ∧ s'.cfg = s.cfg ∧ s.tickInit = false ∧ s'.tickInit = false ∧
    (∀ ch ∈ [s.vin, s.iin, s.vout, s.iout, s'.vin, s'.iin, s'.vout, s'.iout], uval ch.raw ≤ 4095) ∧
    uval s.vin.raw ≤ uval s'.vin.raw ∧ uval s.iin.raw ≤ uval s'.iin.raw ∧ uval s.vout.raw ≤ uval s'.vout.raw ∧
    uval s.iout.raw ≤ uval s'.iout.raw := by decide

/-- The three cases of the average: below the sample, above it, on it (`VIN` rises to 4148, `VOUT` falls to 0, `IIN`
stays at 2048). -/
theorem witness_AveragesFollowTheSample :
    let s := { inState .run with vin := { State.reset.vin with raw := 4095 } }
    let t := after (exec .sample s)
    s.tickInit = false ∧ uval s.vin.sum / 4 < sval t.vin.val ∧ sval t.vout.val < uval s.vout.sum / 4 ∧
    uval s.iin.sum / 4 = sval t.iin.val := by decide

theorem witness_AveragesFollowTheSample_inv : Inv (inState .run) ∧ ∃ t, exec .sample (inState .run) = .next t :=
  ⟨inv_run, _, rfl⟩

theorem witness_AveragesConvergeOnConstantCodes :
    Inv State.reset ∧ State.reset.tickInit = false ∧
    (∀ ch ∈ [State.reset.vin, State.reset.iin, State.reset.vout, State.reset.iout], uval ch.sum = 4 * 2048) ∧
    25 ≤ 25 ∧ 29 ≤ 29 ∧ sval (after (exec .sample State.reset)).vin.val ≤ 4095 :=
  ⟨inv_reset, rfl, by decide, by decide, by decide, by decide⟩

theorem witness_CtrlComputesTheLaw :
    Inv (inState .run) ∧ Inv (inState .wait) ∧ (inState .run).tickInit = false ∧ (inState .wait).tickInit = false ∧
    (inState .run).outEn = true ∧ (inState .wait).outEn = false :=
  ⟨inv_run, inv_wait, rfl, rfl, rfl, rfl⟩

theorem witness_CtrlDutyIsAlwaysWithinLimits :
    ∃ t, (inState .wait).tickInit = false ∧ 0 ≤ (inState .wait).cfg.minBuckDuty ∧
      (inState .wait).cfg.minBuckDuty ≤ uval (inState .wait).params.buckMaxDuty ∧
      exec .ctrl (inState .wait) = .next t ∧ (inState .wait).outEn = false :=
  ⟨_, rfl, by decide, by decide, rfl, rfl⟩

theorem witness_ProtSetsTheSixFlags_inv : Inv (inState .run) ∧ (inState .run).tickInit = false := ⟨inv_run, rfl⟩

/-- Both input-voltage flags at once need crossed thresholds. -/
theorem witness_ProtSetsTheSixFlags :
    (inState .run).tickInit = false ∧
    let t := after (exec .prot { inState .run with
      cfg := { Cfg.cfgT with vinUvpTh := 3900 }, vin := { State.reset.vin with avg := 3850 } })
    t.flagsNow.getLsbD 0 = true ∧ t.flagsNow.getLsbD 1 = true := by decide

/-- The shortest period with the longest dead-time and the longest stepped duty. -/
theorem witness_MapAcceptsAndDrivesTheOutputs :
    let s := { inState .run with
      geo := { period := 12308, half := 8000, duty := 7200, dead := 1600 }, dutyAct := 7999 }
    Inv s ∧ s.tickInit = false ∧ uval s.geo.period ≠ 0 ∧ uval s.geo.dead < uval s.geo.half ∧ uval s.dutyAct ≠ 0 ∧
    uval s.dutyAct < uval s.geo.half ∧ uval s.geo.dead ≤ uval s.geo.half * uval s.geo.period / 16000 := by
  refine ⟨?_, by decide⟩
  exact ⟨by decide, by decide, by decide, by decide, by decide, by decide, by decide⟩

theorem witness_MapRejectsAndKeepsTheOutputs :
    (inState .run).tickInit = false ∧
    (after (exec .map { inState .run with dutyAct := 8000 })).mapErr = true := by decide

theorem witness_OnlyAcceptedMapsChangeTheOutputs :
    (∃ t, step (atStage 6 .run 0) = .next t ∧ t.out ≠ (atStage 6 .run 0).out) ∧
    (∃ t, step { arriving { rst := true } with out := { Descriptor.zero with period := 1 } } = .next t ∧
      t.out ≠ { Descriptor.zero with period := 1 }) :=
  ⟨⟨_, rfl, by decide⟩, ⟨_, rfl, by decide⟩⟩

theorem witness_SoundGeometryIsNeverRejected :
    Cfg.cfgT.WellFormed ∧ SoundGeometry Cfg.cfgT ∧ NeverRejected State.reset ∧
    ∃ t, step State.reset = .next t :=
  ⟨by decide, by decide, ⟨inv_reset, by decide, by decide, by decide⟩, _, rfl⟩

theorem witness_FsmTripsOnALatchedFault :
    ∀ c ∈ [ConvState.wait, .rise, .run],
      let s := { atStage 5 c 0x008 with flagsNow := 0x20 }
      s.cfg.WellFormed ∧ Active s.state ∧ latchedFault s ≠ 0 := by decide

/-- The trip with no step event, and the trip in `CloseLoop`. -/
theorem witness_FsmTripsOnALatchedFault_geometry :
    NoStepEvent (atStage 5 .run 0x007) ∧ ({ atStage 5 .run 0x1F8 with mode := .closeLoop } : State).mode = .closeLoop ∧
    Active (atStage 5 .run 0x007).state ∧ latchedFault { atStage 5 .run 0x007 with flagsNow := 0x01 } ≠ 0 := by decide

/-- One state for each row of the table. -/
theorem witness_FsmFollowsTheTransitionTable :
    (inState .init).state = .init ∧
    (Active (inState .run).state ∧ latchedFault { inState .run with flagsNow := 0x01 } ≠ 0) ∧
    ((atStage 5 .wait 1).state = .wait ∧ latchedFault (atStage 5 .wait 1) = 0 ∧
      (atStage 5 .wait 1).evt.getLsbD 0 = true) ∧
    (latchedFault (atStage 5 .wait 0) = 0 ∧ (atStage 5 .wait 0).evt.getLsbD 0 = false) ∧
    ((atStage 5 .rise 0).state = .rise ∧ latchedFault (atStage 5 .rise 0) = 0) ∧
    ((atStage 5 .run 0).state = .run ∧ latchedFault (atStage 5 .run 0) = 0) ∧
    ((tripped 2).state = .err ∧ (tripped 2).evt.getLsbD 1 = true) ∧
    ((tripped 0).state = .err ∧ (tripped 0).evt.getLsbD 1 = false) := by decide

theorem witness_FsmTogglesTheMode :
    (atStage 5 .run 4).state ≠ .init ∧
    ((atStage 5 .run 4).evt.getLsbD 2 = true ∧ Active (atStage 5 .run 4).state ∧ latchedFault (atStage 5 .run 4) = 0) ∧
    (after (exec .fsm (atStage 5 .run 4))).mode = .closeLoop ∧
    (after (exec .fsm { atStage 5 .run 4 with mode := .closeLoop })).mode = .openLoop ∧
    NoStepEvent (atStage 5 .run 4) ∧ (atStage 5 .run 0).evt.getLsbD 2 = false ∧ (tripped 4).state = .err ∧
    latchedFault { atStage 5 .run 4 with flagsNow := 0x01 } ≠ 0 := by decide

/-- All six step events at once, in both modes, and with a toggle into `OpenLoop`. -/
theorem witness_FsmAppliesTheStepEvents :
    Inv (atStage 5 .run 0x1F8) ∧ Inv { atStage 5 .run 0x1F8 with mode := .closeLoop } ∧
    Inv { atStage 5 .run 0x1FC with mode := .closeLoop } ∧
    (atStage 5 .init 0x1F8).state = .init ∧
    (atStage 5 .run 0x1F8).state ≠ .init ∧ (after (exec .fsm (atStage 5 .run 0x1F8))).mode = .openLoop ∧
    (after (exec .fsm { atStage 5 .run 0x1F8 with mode := .closeLoop })).mode = .closeLoop ∧
    (after (exec .fsm { atStage 5 .run 0x1FC with mode := .closeLoop })).mode = .openLoop := by
  refine ⟨?_, ?_, ?_, by decide⟩ <;>
    exact ⟨by decide, by decide, by decide, by decide, by decide, by decide, by decide⟩

/-- The last tick the bound allows, and both modes. -/
theorem witness_FsmRampsTheDuty :
    Inv { atStage 5 .rise 0 with riseCnt := 15 } ∧ Inv { atStage 5 .rise 0 with mode := .closeLoop } ∧
    (atStage 5 .rise 0).state = .rise ∧ latchedFault (atStage 5 .rise 0) = 0 := by
  refine ⟨?_, ?_, by decide⟩ <;> exact ⟨by decide, by decide, by decide, by decide, by decide, by decide, by decide⟩

theorem witness_FsmSelectsTheActiveDuty :
    (atStage 5 .rise 0).state ≠ .init ∧ (after (exec .fsm (atStage 5 .rise 0))).state = .rise ∧
    (after (exec .fsm (atStage 5 .run 0))).state = .run ∧ (after (exec .fsm (atStage 5 .run 0))).mode = .openLoop ∧
    (after (exec .fsm { atStage 5 .run 0 with mode := .closeLoop })).state = .run ∧
    (after (exec .fsm { atStage 5 .run 0 with mode := .closeLoop })).mode = .closeLoop ∧
    (after (exec .fsm (atStage 5 .wait 0))).state = .wait ∧ (after (exec .fsm (tripped 0))).state = .err := by decide

theorem witness_FsmFrame :
    (atStage 5 .run 0).state ≠ .init ∧ (atStage 5 .run 0).state = .run ∧ (tripped 0).state = .err ∧
    latchedFault { atStage 5 .rise 0 with flagsNow := 0x01 } ≠ 0 ∧ (atStage 5 .wait 1).evt.getLsbD 2 = false ∧
    latchedFault (atStage 5 .wait 1) = 0 ∧ (atStage 5 .wait 0x1FE).state = .wait ∧
    (atStage 5 .wait 0x1FE).evt.getLsbD 0 = false := by decide

theorem witness_IneffectiveEventsAreDropped :
    (∃ t u, (atStage 5 .run 1).state ≠ .wait ∧
      exec .fsm (atStage 5 .run 1) = .next t ∧
      exec .fsm { atStage 5 .run 1 with evt := (atStage 5 .run 1).evt &&& ~~~0x001#9 } = .next u) ∧
    (latchedFault { atStage 5 .wait 1 with flagsNow := 0x01 } ≠ 0) ∧ (atStage 5 .run 2).state ≠ .err ∧
    (tripped 4).state = .err ∧ latchedFault { atStage 5 .run 4 with flagsNow := 0x01 } ≠ 0 ∧
    (after (exec .fsm { atStage 5 .run 0x1F8 with mode := .closeLoop })).mode = .closeLoop ∧
    (atStage 5 .init 0x1FF).state = .init :=
  ⟨⟨_, _, by decide, rfl, rfl⟩, by decide⟩

theorem witness_OperationsWriteOnlyTheirRegisters :
    (∀ idx, Instr.nop ≠ .rd idx) ∧ (∀ e, Instr.nop ≠ .post e) ∧ Instr.nop ≠ .latch ∧ Instr.nop ≠ .sample ∧
    Instr.nop ≠ .fsm ∧ Instr.nop ≠ .ctrl ∧ Instr.nop ≠ .prot ∧ Instr.nop ≠ .map :=
  ⟨fun _ h => (by cases h), fun e => (by cases e <;> decide), by decide⟩

theorem witness_EveryStepKeepsTheInvariants :
    Inv State.reset ∧ (∃ t, step State.reset = .next t) ∧ Inv (atStage 5 .run 0x1FF) ∧
    ∃ t, step (atStage 5 .run 0x1FF) = .next t := by
  refine ⟨inv_reset, ⟨_, rfl⟩, ?_, ⟨_, rfl⟩⟩
  exact ⟨by decide, by decide, by decide, by decide, by decide, by decide, by decide⟩

theorem witness_ResetMeetsTheInvariants : Cfg.cfgT.WellFormed := by decide

/-- The code 3901 calibrates to 3901, one above `SHORT_TH` = 3900. -/
theorem witness_ShortCircuitTripsInTheSameTick :
    let s := { inState .run with inbox := [{ tick := some (codesOf 3901) }] }
    Inv s ∧ s.stg = 0 ∧ s.inbox = { tick := some (codesOf 3901) } :: [] ∧ Active s.state ∧
    max 2048 (((codesOf 3901).iout.toNat : Int) * s.cfg.calIout.k / 4096 + s.cfg.calIout.b) > s.cfg.shortTh := by
  refine ⟨?_, by decide⟩
  exact ⟨by decide, by decide, by decide, by decide, by decide, by decide, by decide⟩

/-- With `SHORT_TH` = 2047 the code 0, clamped to 2048, trips. -/
theorem witness_ShortCircuitTripsInTheSameTick_clamped :
    let s := { inState .run with
      cfg := { Cfg.cfgT with shortTh := 2047 }, inbox := [{ tick := some (codesOf 0) }] }
    Inv s ∧ s.stg = 0 ∧ s.inbox = { tick := some (codesOf 0) } :: [] ∧ Active s.state ∧
    max 2048 (((codesOf 0).iout.toNat : Int) * s.cfg.calIout.k / 4096 + s.cfg.calIout.b) > s.cfg.shortTh := by
  refine ⟨?_, by decide⟩
  exact ⟨by decide, by decide, by decide, by decide, by decide, by decide, by decide⟩

theorem witness_OnlyAckOrResetLeavesErr :
    (∃ t, step (tripped 2) = .next t ∧ (tripped 2).state = .err ∧ t.state ≠ .err) ∧
    (∃ t, step { tripped 0 with stg := 0, inbox := [{ rst := true }] } = .next t ∧ t.state ≠ .err) :=
  ⟨⟨_, rfl, by decide, by decide⟩, ⟨_, rfl, by decide⟩⟩

theorem witness_OnlyStartEnablesTheOutput :
    ∃ t, step (atStage 5 .wait 1) = .next t ∧ (atStage 5 .wait 1).outEn = false ∧ t.outEn = true :=
  ⟨_, rfl, by decide, by decide⟩

/-- The toggle, the load in `Init`, the reset. -/
theorem witness_OnlyTheModeEventSwitchesTheMode :
    (∃ t, step (atStage 5 .run 4) = .next t ∧ t.mode ≠ (atStage 5 .run 4).mode) ∧
    (∃ t, step { atStage 5 .init 0 with mode := .closeLoop } = .next t ∧ t.mode ≠ .closeLoop) ∧
    (∃ t, step { arriving { rst := true } with mode := .closeLoop } = .next t ∧ t.mode ≠ .closeLoop) :=
  ⟨⟨_, rfl, by decide⟩, ⟨_, rfl, by decide⟩, ⟨_, rfl, by decide⟩⟩

/-- The acknowledge clears `SHORT`; the reset clears `CMDERR`; the toggle into `CloseLoop` clears `U_SAT`. -/
theorem witness_LatchedBitsStayUntilCleared :
    (∃ t, step (tripped 2) = .next t ∧ (tripped 2).fault.getLsbD 5 = true ∧ t.fault.getLsbD 5 = false) ∧
    (∃ t, step { arriving { rst := true } with cmdErr := true } = .next t ∧ t.cmdErr = false) ∧
    (∃ t, step { atStage 5 .run 4 with uSat := true } = .next t ∧ t.uSat = false) :=
  ⟨⟨_, rfl, by decide, by decide⟩, ⟨_, rfl, by decide⟩, ⟨_, rfl, by decide⟩⟩

theorem witness_PortsShowTheRegisters : (inState .run).stg = 0 ∧ (atStage 6 .run 0).stg ≠ 0 := by decide

theorem witness_InputCurrentInfluencesNothingElse :
    ∃ t t', (atStage 5 .run 0).stg ≠ 0 ∧ step (atStage 5 .run 0) = .next t ∧
      step { atStage 5 .run 0 with iin := { raw := 4095, val := 4095, sum := 0, avg := 0 } } = .next t' :=
  ⟨_, _, by decide, rfl, rfl⟩

end Sys2Proof.Tests
end

section
/-! SUPPORT. The statements of 10_state.md: the reset values, the word `STATUS`, and what writes `MODE`. -/

namespace Sys2Proof.Machine

/-! ### The step of an idle machine, by the arrival it takes -/

/-- A `RESET` strobe overrides whatever coincides with it (20_memory.md R92, 70_reset_and_hazards.md R290). -/
theorem step_of_rst {s : State} {a : Arrival} {rest : List Arrival} (hw : s.cfg.WellFormed) (hstg : s.stg = 0)
    (hbox : s.inbox = a :: rest) (hrst : a.rst = true) :
    step s = .next (resetEvent { s with inbox := rest }) := by
  have htake : takeInput s = (.reset, { s with inbox := rest }) := by simp [takeInput, hbox, hrst]
  rw [step, fetch_idle hw hstg, htake]
  rfl

/-- A host word that arrives alone runs its operation (20_memory.md R86). -/
theorem step_of_word {s : State} {w : BitVec 16} {i : Instr} {rest : List Arrival} (hw : s.cfg.WellFormed)
    (hstg : s.stg = 0) (hbox : s.inbox = { cmd := some w } :: rest) (hdec : decodeHost w = .ok i) :
    step s = .next (effect i { s with inbox := rest }) := by
  have htake : takeInput s = (.word w, { s with inbox := rest }) := by simp [takeInput, hbox]
  simp only [step, fetch_idle hw hstg, htake, startInput, hdec, exec_eq_effect]

/-- A read of an implemented index returns the register (45_host_commands.md R251). -/
theorem effect_rd_of_regAt {idx : Nat} {r : Reg} (h : regAt idx = some r) (s : State) :
    effect (.rd idx) s = { s with rdata := r.read s } := by
  simp only [effect, readIndex, h]

/-! ### The word `STATUS` (10_state.md R37) -/

theorem toNat_fieldAt {n : Nat} (v : BitVec n) {i : Nat} (h : n + i ≤ 32) :
    (fieldAt v i).toNat = 2 ^ i * v.toNat := by
  have hfit : v.toNat * 2 ^ i < 2 ^ 32 :=
    calc v.toNat * 2 ^ i < 2 ^ n * 2 ^ i := Nat.mul_lt_mul_of_pos_right v.isLt (Nat.two_pow_pos i)
      _ = 2 ^ (n + i) := (Nat.pow_add 2 n i).symm
      _ ≤ 2 ^ 32 := Nat.pow_le_pow_right (by decide) h
  have hv : (v.zeroExtend 32).toNat = v.toNat :=
    Int.ofNat.inj (uval_zeroExtend v (by omega))
  rw [fieldAt, BitVec.toNat_shiftLeft, hv, Nat.shiftLeft_eq, Nat.mod_eq_of_lt hfit, Nat.mul_comm]

/-- A field put above a word that ends below it adds up. -/
theorem toNat_or_fieldAt {n : Nat} {w : Word} (v : BitVec n) {i : Nat} (hw : w.toNat < 2 ^ i) (h : n + i ≤ 32) :
    (w ||| fieldAt v i).toNat = 2 ^ i * v.toNat + w.toNat := by
  rw [BitVec.toNat_or, toNat_fieldAt v h, Nat.lor_comm, Nat.two_pow_add_eq_or_of_lt hw]

/-- With the field put above it the word ends where the field ends. -/
theorem or_fieldAt_lt {n : Nat} {w : Word} (v : BitVec n) {i : Nat} (hw : w.toNat < 2 ^ i) (h : n + i ≤ 32) :
    (w ||| fieldAt v i).toNat < 2 ^ (n + i) := by
  have hv : 2 ^ i * (v.toNat + 1) ≤ 2 ^ i * 2 ^ n := Nat.mul_le_mul_left _ v.isLt
  rw [Nat.mul_succ] at hv
  rw [toNat_or_fieldAt v hw h, Nat.add_comm n i, Nat.pow_add]
  omega

/-- `STATUS` as a number: its seven fields, each at its weight. -/
theorem toNat_statusWord (s : State) :
    (statusWord s).toNat =
      (stateCode s.state).toNat + 8 * (modeCode s.mode).toNat + 16 * s.outEn.toNat + 32 * s.mapErr.toNat +
        64 * s.cmdErr.toNat + 128 * s.uSat.toNat + 256 * s.stg.toNat := by
  have hstate : (fieldAt (stateCode s.state) 0).toNat = (stateCode s.state).toNat := by
    rw [toNat_fieldAt _ (by decide), Nat.pow_zero, Nat.one_mul]
  have h3 : (fieldAt (stateCode s.state) 0).toNat < 2 ^ 3 := hstate ▸ (stateCode s.state).isLt
  have h4 := or_fieldAt_lt (modeCode s.mode) h3 (by decide)
  have h5 := or_fieldAt_lt (BitVec.ofBool s.outEn) h4 (by decide)
  have h6 := or_fieldAt_lt (BitVec.ofBool s.mapErr) h5 (by decide)
  have h7 := or_fieldAt_lt (BitVec.ofBool s.cmdErr) h6 (by decide)
  have h8 := or_fieldAt_lt (BitVec.ofBool s.uSat) h7 (by decide)
  rw [statusWord, toNat_or_fieldAt _ h8 (by decide), toNat_or_fieldAt _ h7 (by decide),
    toNat_or_fieldAt _ h6 (by decide), toNat_or_fieldAt _ h5 (by decide), toNat_or_fieldAt _ h4 (by decide),
    toNat_or_fieldAt _ h3 (by decide), hstate]
  simp only [BitVec.toNat_ofBool]
  omega

/-- A bit of a word, read off its number. -/
theorem getLsbD_eq_of_div_mod {w : Word} {i : Nat} {b : Bool} (h : w.toNat / 2 ^ i % 2 = b.toNat) :
    w.getLsbD i = b := by
  rw [BitVec.getLsbD, Nat.testBit_eq_decide_div_mod_eq, h]
  cases b <;> rfl

/-- The code of `MODE` is the bit that says `CloseLoop` (10_state.md R33). -/
theorem toNat_modeCode (m : OpMode) : (modeCode m).toNat = (decide (m = .closeLoop)).toNat := by cases m <;> rfl

/-- The fields of `STATUS`, each read at its place; nothing stands above bit 10 (10_state.md R37). -/
theorem statusWord_fields (s : State) :
    (statusWord s).toNat % 8 = (stateCode s.state).toNat ∧
    (statusWord s).getLsbD 3 = decide (s.mode = .closeLoop) ∧ (statusWord s).getLsbD 4 = s.outEn ∧
    (statusWord s).getLsbD 5 = s.mapErr ∧ (statusWord s).getLsbD 6 = s.cmdErr ∧ (statusWord s).getLsbD 7 = s.uSat ∧
    (statusWord s).toNat / 256 = s.stg.toNat := by
  have hw := toNat_statusWord s
  rw [toNat_modeCode] at hw
  have hstate := (stateCode s.state).isLt
  have hmode := Bool.toNat_lt (decide (s.mode = .closeLoop))
  have hout := Bool.toNat_lt s.outEn
  have hmap := Bool.toNat_lt s.mapErr
  have hcmd := Bool.toNat_lt s.cmdErr
  have husat := Bool.toNat_lt s.uSat
  refine ⟨?_, getLsbD_eq_of_div_mod ?_, getLsbD_eq_of_div_mod ?_, getLsbD_eq_of_div_mod ?_, getLsbD_eq_of_div_mod ?_,
    getLsbD_eq_of_div_mod ?_, ?_⟩ <;> omega

/-- Settles O20: the first part by the step of the word `RD` with index 0x30, the second by the fields of `STATUS`. -/
theorem statusShowsItsFields : Obligations.StatusShowsItsFields := by
  unfold Obligations.StatusShowsItsFields
  refine ⟨fun s rest hw hstg hbox => ?_, fun s => ?_⟩
  · have hstep := step_of_word (i := .rd 0x30) hw hstg hbox rfl
    rw [effect_rd_of_regAt (r := .status) rfl] at hstep
    obtain ⟨-, -, -, -, -, -, hfield⟩ := statusWord_fields s
    exact ⟨_, hstep, rfl, hfield.trans (by rw [hstg]; rfl)⟩
  · obtain ⟨hstate, hmode, hout, hmap, hcmd, husat, hstg⟩ := statusWord_fields s
    have hlt := s.stg.isLt
    have hcode (c : ConvState) (hc : s.state = c) : (Reg.status.read s).toNat % 8 = (stateCode c).toNat := hc ▸ hstate
    have hfield : (Reg.status.read s).toNat / 256 = s.stg.toNat := hstg
    refine ⟨hcode .init, hcode .wait, hcode .rise, hcode .run, hcode .err, ?_, hout, hmap, hcmd, husat, ?_, ?_⟩
    · rw [Reg.read, hmode, decide_eq_true_iff]
    · rw [hfield, Nat.mod_eq_of_lt hlt]
    · omega

/-! ### The reset values (10_state.md R49) -/

theorem channelReset_values {c : Cfg} {v : Int} (hseed : InRange c.avgSeed 0 65535) (h0 : -2147483648 ≤ v)
    (h1 : v < 2147483648) : ChannelResetValues c v (Channel.reset c v) :=
  ⟨rfl, sval_word h0 h1, uval_word (by omega) (by omega), uval_word (by omega) (by omega)⟩

/-- A parameter of 16 bits is read back from the register it is loaded into. -/
theorem uval_word_of_inRange {x lo : Int} (hlo : 0 ≤ lo) (h : InRange x lo 65535) : uval (word x) = x :=
  uval_word (by omega) (by omega)

/-- After reset `STATUS` shows `MODE_INIT` and nothing else. -/
theorem toNat_statusWord_resetWith (c : Cfg) :
    (statusWord (State.resetWith c)).toNat = 8 * (modeCode c.modeInit).toNat := by
  rw [toNat_statusWord]
  simp [State.resetWith, stateCode]

theorem resetWith_values {c : Cfg} (hw : c.WellFormed) : ResetValues c (State.resetWith c) := by
  obtain ⟨⟨-, -, -, -, hseed⟩, ⟨-, -, -, hmin, hbuck, hboost, hfixed, hvo, hio, hlim, hlimOut⟩, -,
    ⟨hper, hhalf, hduty, hdead, -⟩, -⟩ := (Cfg.wellFormed_iff c).1 hw
  have hvoltage := channelReset_values (v := 0) hseed (by decide) (by decide)
  have hcurrent := channelReset_values (v := 2048) hseed (by decide) (by decide)
  have hread {x lo : Int} := @uval_word_of_inRange x lo
  have hminDuty := hread (by decide) hmin
  have hstatus := toNat_statusWord_resetWith c
  refine ⟨?sampler, ?control, ?system, ?geometry⟩
  case sampler => exact ⟨hvoltage, hcurrent, hvoltage, hcurrent, rfl, rfl⟩
  case control =>
    exact ⟨rfl, rfl, rfl, hminDuty, hread (by decide) hfixed, hread (by decide) hvo, hread (by decide) hio,
      hread (by decide) hlim, hread (by decide) hlimOut, hread (by omega) hbuck, hread (by decide) hboost⟩
  case system =>
    exact ⟨rfl, rfl, rfl, rfl, rfl, rfl, rfl, rfl, rfl, rfl, hminDuty, rfl, hminDuty, rfl,
      hstatus.trans (by cases c.modeInit <;> rfl)⟩
  case geometry =>
    exact ⟨hread (by decide) hper, hread (by decide) hhalf, hread (by decide) hduty, hread (by decide) hdead, rfl⟩

/-- What a `RESET` strobe keeps is in no row of the table. -/
theorem resetEvent_values {s : State} (hw : s.cfg.WellFormed) : ResetValues s.cfg (resetEvent s) :=
  resetWith_values hw

/-- Settles O13, by the values of the reset state and the step that takes a `RESET` strobe. -/
theorem resetSetsEveryRegister : Obligations.ResetSetsEveryRegister :=
  ⟨fun _ hw => resetWith_values hw, fun s _ rest hw hstg hbox hrst =>
    ⟨_, step_of_rst hw hstg hbox hrst, resetEvent_values (s := { s with inbox := rest }) hw, rfl, rfl⟩⟩

/-! ### What writes `MODE` (10_state.md R33) -/

/-- Outside `Init` the mode of an `FSM` is that of its step 3 (44_state_machine.md R201). -/
theorem fsmSteps_mode (s : State) : (fsmSteps s).mode =
    (toggleIf s.state (trips (latchFault s)) (transition (latchFault s))).mode := by
  simp [fsmSteps]

/-- An `FSM` outside `Init` changes the mode by the toggle only (44_state_machine.md R209). -/
theorem fsmSteps_mode_cases (s : State) : (fsmSteps s).mode = s.mode ∨
    (s.evt.getLsbD 2 = true ∧ Active s.state ∧ latchedFault s = 0) := by
  rw [fsmSteps_mode]
  rcases toggleIf_cases s.state (trips (latchFault s)) (transition (latchFault s)) with
    ⟨hevt, hact, htrip, -⟩ | ⟨-, heq⟩
  · have hfault : latchedFault s = 0 := by
      by_contra hne
      exact absurd ((trips_latchFault s).2 ⟨hact, hne⟩) (by simp [htrip])
    exact .inr ⟨by simpa using hevt, hact, hfault⟩
  · exact .inl (by rw [heq]; simp)

/-- Taking an input keeps the configuration and the mode. -/
theorem takeInput_cfg_mode (s : State) : (takeInput s).2.cfg = s.cfg ∧ (takeInput s).2.mode = s.mode := by
  rw [takeInput_frame s]; exact ⟨rfl, rfl⟩

/-- Settles O49, by the inversion of the step: every other stage and every other input keeps the mode. -/
theorem onlyTheModeEventSwitchesTheMode : Obligations.OnlyTheModeEventSwitchesTheMode := by
  unfold Obligations.OnlyTheModeEventSwitchesTheMode
  intro s t hstep hne
  obtain ⟨hcfg, hmode⟩ := takeInput_cfg_mode s
  obtain ⟨-, ⟨-, rfl⟩ | ⟨-, rfl⟩ | ⟨-, rfl⟩ | ⟨-, rfl⟩ | ⟨hstg, rfl⟩ | ⟨-, rfl⟩ | ⟨hstg, hrst, rfl⟩ |
    ⟨-, codes, -, rfl⟩ | ⟨-, hframe, -⟩⟩ := step_inversion hstep
  · exact absurd (latchStage_mode s) hne
  · exact absurd (sampleStage_mode s) hne
  · exact absurd (ctrlStage_mode s) hne
  · exact absurd (protStage_mode s) hne
  · by_cases hs : s.state = .init
    · exact .inl ⟨hstg, hs, by rw [fsmStage_of_init hs]; rfl⟩
    · rw [fsmStage_of_ne hs] at hne
      exact .inr (.inl ⟨hstg, (fsmSteps_mode_cases s).resolve_left hne⟩)
  · exact absurd (mapStage_mode s) hne
  · exact .inr (.inr ⟨hstg, hrst, by rw [← hcfg]; rfl⟩)
  · exact absurd hmode hne
  · exact absurd (by rw [hframe]) hne

end Sys2Proof.Machine
end

section
/-! SUPPORT. The statement of 20_memory.md: what a read does. -/

namespace Sys2Proof.Machine

/-- No register shows the read port (20_memory.md R84). -/
@[simp] theorem Reg.read_rdata_update (r : Reg) (s : State) (v : Word) :
    r.read { s with rdata := v } = r.read s := by cases r <;> rfl

/-- A read of an index with no register returns 0 and sets `CMDERR` (45_host_commands.md R251). -/
theorem effect_rd_of_regAt_none {idx : Nat} (h : regAt idx = none) (s : State) :
    effect (.rd idx) s = { s with rdata := 0, cmdErr := true } := by
  simp only [effect, readIndex, h]

/-- A read writes the read port and `CMDERR` only, and never clears `CMDERR` (20_memory.md R84). -/
theorem effect_rd_frame (idx : Nat) (s : State) :
    effect (.rd idx) s = { s with rdata := (effect (.rd idx) s).rdata, cmdErr := (effect (.rd idx) s).cmdErr } ∧
    (s.cmdErr = true → (effect (.rd idx) s).cmdErr = true) := by
  cases hreg : regAt idx with
  | none => rw [effect_rd_of_regAt_none hreg]; exact ⟨rfl, fun _ => rfl⟩
  | some r => rw [effect_rd_of_regAt hreg]; exact ⟨rfl, id⟩

/-- Reading the same index again changes nothing: where a register stands there, the first read wrote the read port only,
which no register shows. -/
theorem effect_rd_idem (idx : Nat) (s : State) : effect (.rd idx) (effect (.rd idx) s) = effect (.rd idx) s := by
  cases hreg : regAt idx with
  | none => simp only [effect_rd_of_regAt_none hreg]
  | some r => simp only [effect_rd_of_regAt hreg, Reg.read_rdata_update]

/-- Settles O21, by the frame of a read and its idempotence. -/
theorem readsAreRepeatable : Obligations.ReadsAreRepeatable := by
  unfold Obligations.ReadsAreRepeatable
  intro s idx
  obtain ⟨hframe, hsticky⟩ := effect_rd_frame idx s
  exact ⟨effect (.rd idx) s, exec_eq_effect _ s, by rw [exec_eq_effect, effect_rd_idem], hframe, hsticky⟩

end Sys2Proof.Machine
end

section
/-! SUPPORT. The statements of 30_encoding.md: which words are operations. -/

namespace Sys2Proof

/-- The fields `cls`, `z` and `arg` of a host word as quotients of its number (30_encoding.md R103). -/
theorem decodeHost_eq (w : BitVec 16) :
    decodeHost w = decodeFields (w.toNat / 4096) (w.toNat / 256 % 16) (w.toNat % 256) := by
  have hcls : bitField w 15 12 = w.toNat / 4096 := Nat.mod_eq_of_lt (by have := w.isLt; omega)
  have hz : bitField w 11 8 = w.toNat / 256 % 16 := rfl
  have harg : bitField w 7 0 = w.toNat % 256 := congrArg (· % 256) (Nat.div_one w.toNat)
  rw [decodeHost, hcls, hz, harg]

/-- The argument of a post is the bit number of its event (30_encoding.md R104). -/
@[simp] theorem decodeEvent_num (e : Event) : decodeEvent e.num = .ok e := by cases e <;> rfl

/-- No event has bit number 9 or more (30_encoding.md R108). -/
theorem decodeEvent_of_nine_le {arg : Nat} (h : 9 ≤ arg) : decodeEvent arg = .error .reservedEvent := by
  obtain ⟨k, rfl⟩ := Nat.exists_eq_add_of_le' h
  rfl

theorem Event.num_lt (e : Event) : e.num < 9 := by cases e <;> decide

/-! ### The words of the three classes (30_encoding.md R103 to R105) -/

theorem decodeHost_nop {w : BitVec 16} (h : w.toNat = 0) : decodeHost w = .ok .nop := by
  rw [decodeHost_eq, h]; rfl

theorem decodeHost_post {w : BitVec 16} {e : Event} (h : w.toNat = 0x1000 + e.num) :
    decodeHost w = .ok (.post e) := by
  have hlt := e.num_lt
  have hcls : w.toNat / 4096 = 1 := by omega
  have hz : w.toNat / 256 % 16 = 0 := by omega
  have harg : w.toNat % 256 = e.num := by omega
  rw [decodeHost_eq, hcls, hz, harg]
  simp [decodeFields, Except.map]

theorem decodeHost_rd {w : BitVec 16} {idx : Nat} (hidx : idx < 256) (h : w.toNat = 0x2000 + idx) :
    decodeHost w = .ok (.rd idx) := by
  have hcls : w.toNat / 4096 = 2 := by omega
  have hz : w.toNat / 256 % 16 = 0 := by omega
  have harg : w.toNat % 256 = idx := by omega
  rw [decodeHost_eq, hcls, hz, harg]
  rfl

/-! ### The reserved words (30_encoding.md R108) -/

theorem decodeFields_reservedClass {cls : Nat} (h : 3 ≤ cls) (z arg : Nat) :
    decodeFields cls z arg = .error .reservedClass := if_pos h

theorem decodeFields_reservedZ {cls z : Nat} (hcls : cls < 3) (hz : z ≠ 0) (arg : Nat) :
    decodeFields cls z arg = .error .reservedZ := (if_neg (Nat.not_le_of_lt hcls)).trans (if_pos hz)

theorem decodeFields_reservedNopArg {arg : Nat} (h : arg ≠ 0) : decodeFields 0 0 arg = .error .reservedNopArg :=
  if_neg h

theorem decodeFields_reservedEvent {arg : Nat} (h : 9 ≤ arg) : decodeFields 1 0 arg = .error .reservedEvent := by
  simp [decodeFields, decodeEvent_of_nine_le h, Except.map]

/-- Fields that meet a condition of 30_encoding.md R108 name no operation. -/
theorem decodeFields_reserved {cls z arg : Nat}
    (h : cls ≥ 3 ∨ z ≠ 0 ∨ (cls = 0 ∧ arg ≠ 0) ∨ (cls = 1 ∧ arg ≥ 9)) :
    ∃ r, decodeFields cls z arg = .error r := by
  by_cases hcls : 3 ≤ cls
  · exact ⟨_, decodeFields_reservedClass hcls z arg⟩
  by_cases hz : z ≠ 0
  · exact ⟨_, decodeFields_reservedZ (Nat.lt_of_not_le hcls) hz arg⟩
  obtain rfl := not_not.mp hz
  obtain ⟨rfl, harg⟩ | ⟨rfl, harg⟩ := (h.resolve_left hcls).resolve_left hz
  · exact ⟨_, decodeFields_reservedNopArg harg⟩
  · exact ⟨_, decodeFields_reservedEvent harg⟩

/-- Settles O2, by one lemma for each class of word and the four ways a word is reserved. -/
theorem hostWordsDecodeByClass : Obligations.HostWordsDecodeByClass := by
  unfold Obligations.HostWordsDecodeByClass
  refine fun w => ⟨decodeHost_nop, fun _ => decodeHost_post, fun _ => decodeHost_rd, fun hres i hok => ?_⟩
  obtain ⟨r, hr⟩ := decodeFields_reserved hres
  rw [decode, decodeHost_eq, hr] at hok
  cases hok

/-- Settles O4: the stage codes by the table of R101, the host words by the lemma of their class. -/
theorem writtenOutWordsDecode : Obligations.WrittenOutWordsDecode :=
  ⟨rfl, rfl, rfl, rfl, rfl, rfl, decodeHost_nop rfl,
    decodeHost_post (e := .start) rfl, decodeHost_post (e := .ack) rfl, decodeHost_post (e := .mode) rfl,
    decodeHost_post (e := .freqUp) rfl, decodeHost_post (e := .freqDn) rfl, decodeHost_post (e := .dutyUp) rfl,
    decodeHost_post (e := .dutyDn) rfl, decodeHost_post (e := .deadUp) rfl, decodeHost_post (e := .deadDn) rfl,
    decodeHost_rd (by decide) rfl, (decodeHost_eq _).trans (decodeFields_reservedZ (by decide) (by decide) _)⟩

end Sys2Proof
end

section
/-! SUPPORT. The statements of 40_sampler.md: what `SAMPLE` does to a channel, in which order it leaves the codes, and
where the averages go. -/

namespace Sys2Proof.Machine

/-! ### The effect of `SAMPLE` outside `Init` (40_sampler.md R130, R136) -/

theorem sampleStage_of_tickInit_false {s : State} (h : s.tickInit = false) :
    sampleStage s = { sampleChannels s with stg := 3 } := by simp [sampleStage, h]

theorem exec_sample_of_tickInit_false {s : State} (h : s.tickInit = false) :
    exec .sample s = .next { sampleChannels s with stg := 3 } := by
  rw [exec_eq_effect, effect, sampleStage_of_tickInit_false h]

/-- The calibrations of a valid configuration are valid (00_scope.md R8). -/
theorem cals_wellFormed {c : Cfg} (hw : c.WellFormed) :
    c.calVin.WellFormed ∧ c.calIin.WellFormed ∧ c.calVout.WellFormed ∧ c.calIout.WellFormed := by
  obtain ⟨⟨hvin, hiin, hvout, hiout, -⟩, -⟩ := (Cfg.wellFormed_iff c).1 hw
  exact ⟨hvin, hiin, hvout, hiout⟩

/-! ### The clamped value of a code (R131 to R133) -/

theorem floorVoltage_mem {v0 : Int} (h : v0 ≤ 98286) : 0 ≤ floorVoltage v0 ∧ floorVoltage v0 ≤ 98286 := by
  have := floorVoltage_spec v0
  omega

theorem floorCurrent_mem {v0 : Int} (h : v0 ≤ 98286) : 0 ≤ floorCurrent v0 ∧ floorCurrent v0 ≤ 98286 := by
  have := floorCurrent_spec v0
  omega

theorem floorVoltage_mono {x y : Int} (h : x ≤ y) : floorVoltage x ≤ floorVoltage y := by
  have := floorVoltage_spec x
  have := floorVoltage_spec y
  omega

theorem floorCurrent_mono {x y : Int} (h : x ≤ y) : floorCurrent x ≤ floorCurrent y := by
  have := floorCurrent_spec x
  have := floorCurrent_spec y
  omega

/-- The value a valid calibration gives a 12-bit code of a voltage channel. -/
theorem voltage_mem {cal : Cal} {raw : Word} (hc : cal.WellFormed) (hr : uval raw ≤ 4095) :
    0 ≤ floorVoltage (calibrate cal raw) ∧ floorVoltage (calibrate cal raw) ≤ 98286 :=
  floorVoltage_mem (calibrate_bounds hc hr).2

/-- The value a valid calibration gives a 12-bit code of a current channel. -/
theorem current_mem {cal : Cal} {raw : Word} (hc : cal.WellFormed) (hr : uval raw ≤ 4095) :
    0 ≤ floorCurrent (calibrate cal raw) ∧ floorCurrent (calibrate cal raw) ≤ 98286 :=
  floorCurrent_mem (calibrate_bounds hc hr).2

/-! ### One channel (R131 to R134) -/

theorem sampleVoltage_spec {cal : Cal} {ch : Channel} (hc : cal.WellFormed) (hr : uval ch.raw ≤ 4095)
    (hs : uval ch.sum ≤ 393147) : VoltageSampled cal ch (sampleVoltage cal ch) := by
  obtain ⟨hlo, hhi⟩ := calibrate_bounds hc hr
  obtain ⟨hbelow, habove⟩ := floorVoltage_spec (calibrate cal ch.raw)
  obtain ⟨hv0, hv⟩ := voltage_mem hc hr
  exact ⟨calibrate cal ch.raw, _, rfl, hlo, hhi, hbelow, habove, updateChannel_spec hs hv0 hv⟩

theorem sampleCurrent_spec {cal : Cal} {ch : Channel} (hc : cal.WellFormed) (hr : uval ch.raw ≤ 4095)
    (hs : uval ch.sum ≤ 393147) : CurrentSampled cal ch (sampleCurrent cal ch) := by
  obtain ⟨hlo, hhi⟩ := calibrate_bounds hc hr
  obtain ⟨hbelow, habove⟩ := floorCurrent_spec (calibrate cal ch.raw)
  obtain ⟨hv0, hv⟩ := current_mem hc hr
  exact ⟨calibrate cal ch.raw, _, rfl, hlo, hhi, hbelow, habove, updateChannel_spec hs hv0 hv⟩

/-- Settles O24, by what `SAMPLE` does to a voltage channel and to a current channel. -/
theorem sampleCalibratesClampsAndAverages : Obligations.SampleCalibratesClampsAndAverages := by
  unfold Obligations.SampleCalibratesClampsAndAverages
  intro s hinv hinit
  obtain ⟨hw, ⟨⟨hrVin, -, hsVin, -⟩, ⟨hrIin, -, hsIin, -⟩, ⟨hrVout, -, hsVout, -⟩, ⟨hrIout, -, hsIout, -⟩, -⟩, -⟩ := hinv
  obtain ⟨hvin, hiin, hvout, hiout⟩ := cals_wellFormed hw
  exact ⟨_, exec_sample_of_tickInit_false hinit, sampleVoltage_spec hvin hrVin hsVin,
    sampleCurrent_spec hiin hrIin hsIin, sampleVoltage_spec hvout hrVout hsVout,
    sampleCurrent_spec hiout hrIout hsIout, rfl⟩

/-! ### The order of the codes (R138) -/

/-- The value a channel is updated with is read back from its register, whatever its sum was. -/
theorem sval_updateChannel_val {ch : Channel} {v : Int} (h : 0 ≤ v ∧ v ≤ 98286) :
    sval (updateChannel ch v).val = v := sval_word (by omega) (by omega)

theorem sampleVoltage_val_mono {cal : Cal} {ch ch' : Channel} (hc : cal.WellFormed) (hr' : uval ch'.raw ≤ 4095)
    (h : uval ch.raw ≤ uval ch'.raw) : sval (sampleVoltage cal ch).val ≤ sval (sampleVoltage cal ch').val := by
  rw [sampleVoltage, sampleVoltage, sval_updateChannel_val (voltage_mem hc (h.trans hr')),
    sval_updateChannel_val (voltage_mem hc hr')]
  exact floorVoltage_mono (calibrate_mono hc h)

theorem sampleCurrent_val_mono {cal : Cal} {ch ch' : Channel} (hc : cal.WellFormed) (hr' : uval ch'.raw ≤ 4095)
    (h : uval ch.raw ≤ uval ch'.raw) : sval (sampleCurrent cal ch).val ≤ sval (sampleCurrent cal ch').val := by
  rw [sampleCurrent, sampleCurrent, sval_updateChannel_val (current_mem hc (h.trans hr')),
    sval_updateChannel_val (current_mem hc hr')]
  exact floorCurrent_mono (calibrate_mono hc h)

/-- Settles O25: calibration and both floor clamps are monotone. -/
theorem sampleIsMonotonicInTheCode : Obligations.SampleIsMonotonicInTheCode := by
  unfold Obligations.SampleIsMonotonicInTheCode
  intro s s' t t' hw hcfg hinit hinit' hraw ht ht'
  obtain ⟨hvin, hiin, hvout, hiout⟩ := cals_wellFormed hw
  obtain rfl := next_inj ((exec_sample_of_tickInit_false hinit).symm.trans ht)
  obtain rfl := next_inj ((exec_sample_of_tickInit_false hinit').symm.trans ht')
  simp only [sampleChannels_vin, sampleChannels_iin, sampleChannels_vout, sampleChannels_iout, hcfg]
  exact ⟨sampleVoltage_val_mono hvin (hraw s'.vin (by simp)), sampleCurrent_val_mono hiin (hraw s'.iin (by simp)),
    sampleVoltage_val_mono hvout (hraw s'.vout (by simp)), sampleCurrent_val_mono hiout (hraw s'.iout (by simp))⟩

/-! ### The moving average follows the sample (R139) -/

theorem averageFollows_updateChannel {ch : Channel} {v : Int} (hs : uval ch.sum ≤ 393147) (h : 0 ≤ v ∧ v ≤ 98286) :
    AverageFollows ch (updateChannel ch v) := by
  obtain ⟨-, hval, hsum, -, -⟩ := updateChannel_spec hs h.1 h.2
  rw [AverageFollows, hval, hsum]
  refine ⟨?below, ?above, ?reached⟩
  case below => omega
  case above => omega
  case reached =>
    intro heq
    exact eq_of_uval_eq (by omega)

/-- Settles O26, by the moving average of one channel. -/
theorem averagesFollowTheSample : Obligations.AveragesFollowTheSample := by
  unfold Obligations.AveragesFollowTheSample
  intro s t hinv hinit ht
  obtain ⟨hw, ⟨⟨hrVin, -, hsVin, -⟩, ⟨hrIin, -, hsIin, -⟩, ⟨hrVout, -, hsVout, -⟩, ⟨hrIout, -, hsIout, -⟩, -⟩, -⟩ := hinv
  obtain ⟨hvin, hiin, hvout, hiout⟩ := cals_wellFormed hw
  obtain rfl := next_inj ((exec_sample_of_tickInit_false hinit).symm.trans ht)
  exact ⟨averageFollows_updateChannel hsVin (voltage_mem hvin hrVin),
    averageFollows_updateChannel hsIin (current_mem hiin hrIin),
    averageFollows_updateChannel hsVout (voltage_mem hvout hrVout),
    averageFollows_updateChannel hsIout (current_mem hiout hrIout)⟩

/-! ### The deviation of a sum from its fixed point

With `d = S - 4 * v` the recurrence of R134 is `d ↦ d - d / 4`, whatever the value `v`: one monotone map, so two
endpoints bound every code (R139). -/

/-- One sample's effect on the deviation of the sum from four times the value. -/
def nextDeviation (d : Int) : Int := d - d / 4

theorem nextDeviation_mono : Monotone nextDeviation := fun x y h => by
  unfold nextDeviation
  omega

theorem updateChannel_deviation {ch : Channel} {v : Int} (hs : uval ch.sum ≤ 393147) (h : 0 ≤ v ∧ v ≤ 98286) :
    uval (updateChannel ch v).sum - 4 * v = nextDeviation (uval ch.sum - 4 * v) := by
  obtain ⟨-, -, hsum, -, -⟩ := updateChannel_spec hs h.1 h.2
  rw [hsum, nextDeviation]
  omega

/-- An interval around the fixed points 0 to 3 is not left again. -/
theorem iterate_nextDeviation_stays {d lo hi : Int} (hlo : lo ≤ 3) (hhi : 0 ≤ hi) (h : lo ≤ d ∧ d ≤ hi) (n : Nat) :
    lo ≤ nextDeviation^[n] d ∧ nextDeviation^[n] d ≤ hi := by
  induction n with
  | zero => exact h
  | succ n ih =>
    rw [Function.iterate_succ_apply', nextDeviation]
    omega

/-- Where the two endpoints are after `k` samples bounds every deviation between them from then on. -/
theorem iterate_nextDeviation_mem {a b d lo hi : Int} {k n : Nat} (hlo : lo ≤ 3) (hhi : 0 ≤ hi) (hd : a ≤ d ∧ d ≤ b)
    (ha : lo ≤ nextDeviation^[k] a) (hb : nextDeviation^[k] b ≤ hi) (hn : k ≤ n) :
    lo ≤ nextDeviation^[n] d ∧ nextDeviation^[n] d ≤ hi := by
  have hmono := nextDeviation_mono.iterate k
  rw [← Nat.sub_add_cancel hn, Function.iterate_add_apply]
  exact iterate_nextDeviation_stays hlo hhi ⟨ha.trans (hmono hd.1), (hmono hd.2).trans hb⟩ _

/-- From the seed 2048 and a value of 0 to 4095 the sum is near its fixed points after 25 samples. -/
theorem nextDeviation_after_25 {d : Int} (hd : -8188 ≤ d ∧ d ≤ 8192) {n : Nat} (hn : 25 ≤ n) :
    -4 ≤ nextDeviation^[n] d ∧ nextDeviation^[n] d ≤ 7 :=
  iterate_nextDeviation_mem (by decide) (by decide) hd (by decide) (by decide) hn

/-- From the seed 2048 and a value of 0 to 4095 the sum is at a fixed point after 29 samples. -/
theorem nextDeviation_after_29 {d : Int} (hd : -8188 ≤ d ∧ d ≤ 8192) {n : Nat} (hn : 29 ≤ n) :
    0 ≤ nextDeviation^[n] d ∧ nextDeviation^[n] d ≤ 3 :=
  iterate_nextDeviation_mem (by decide) (by decide) hd (by decide) (by decide) hn

/-! ### Many samples of one channel -/

/-- A channel sampled with the value `f` gives its code: `sampleVoltage cal` and `sampleCurrent cal` are of this form. -/
def sampleBy (f : Word → Int) (ch : Channel) : Channel := updateChannel ch (f ch.raw)

theorem sampleVoltage_eq_sampleBy (cal : Cal) :
    sampleVoltage cal = sampleBy fun raw => floorVoltage (calibrate cal raw) := rfl

theorem sampleCurrent_eq_sampleBy (cal : Cal) :
    sampleCurrent cal = sampleBy fun raw => floorCurrent (calibrate cal raw) := rfl

/-- The code stays, the sum stays in its range, and its deviation takes one step each time. -/
theorem iterate_sampleBy_spec {f : Word → Int} {ch : Channel} (hs : uval ch.sum ≤ 393147)
    (hf : 0 ≤ f ch.raw ∧ f ch.raw ≤ 98286) (n : Nat) :
    ((sampleBy f)^[n] ch).raw = ch.raw ∧ uval ((sampleBy f)^[n] ch).sum ≤ 393147 ∧
    uval ((sampleBy f)^[n] ch).sum - 4 * f ch.raw = nextDeviation^[n] (uval ch.sum - 4 * f ch.raw) := by
  induction n with
  | zero => exact ⟨rfl, hs, rfl⟩
  | succ n ih =>
    obtain ⟨hraw, hsum, hdev⟩ := ih
    simp only [Function.iterate_succ_apply']
    rw [sampleBy, hraw, ← hdev]
    obtain ⟨hraw', -, -, hsum', -⟩ := updateChannel_spec hsum hf.1 hf.2
    exact ⟨hraw'.trans hraw, hsum', updateChannel_deviation hsum hf⟩

/-- After at least one sample the channel shows the value of its code and the average of its sum. -/
theorem iterate_sampleBy_val_avg {f : Word → Int} {ch : Channel} (hs : uval ch.sum ≤ 393147)
    (hf : 0 ≤ f ch.raw ∧ f ch.raw ≤ 98286) {n : Nat} (hn : n ≠ 0) :
    sval ((sampleBy f)^[n] ch).val = f ch.raw ∧
    uval ((sampleBy f)^[n] ch).avg = uval ((sampleBy f)^[n] ch).sum / 4 := by
  obtain ⟨m, rfl⟩ := Nat.exists_eq_succ_of_ne_zero hn
  obtain ⟨hraw, hsum, -⟩ := iterate_sampleBy_spec hs hf m
  rw [Function.iterate_succ_apply', sampleBy, hraw]
  obtain ⟨-, hval, -, -, havg⟩ := updateChannel_spec hsum hf.1 hf.2
  exact ⟨hval, havg⟩

/-- What the convergence bounds of R139 say of one channel, `n` samples later. -/
def AverageConverged (n : Nat) (before after : Channel) : Prop :=
  after.raw = before.raw ∧
  (sval after.val ≤ 4095 →
    sval after.val - 1 ≤ uval after.avg ∧ uval after.avg ≤ sval after.val + 1 ∧
    (29 ≤ n → uval after.avg = sval after.val))

theorem averageConverged_sampleBy {f : Word → Int} {ch : Channel} (hf : 0 ≤ f ch.raw ∧ f ch.raw ≤ 98286)
    (hs : uval ch.sum = 4 * 2048) {n : Nat} (hn : 25 ≤ n) : AverageConverged n ch ((sampleBy f)^[n] ch) := by
  have hs' : uval ch.sum ≤ 393147 := by omega
  obtain ⟨hraw, -, hdev⟩ := iterate_sampleBy_spec hs' hf n
  obtain ⟨hval, havg⟩ := iterate_sampleBy_val_avg hs' hf (n := n) (by omega)
  rw [AverageConverged, hval, havg]
  refine ⟨hraw, fun hle => ?_⟩
  have hd : -8188 ≤ uval ch.sum - 4 * f ch.raw ∧ uval ch.sum - 4 * f ch.raw ≤ 8192 := by omega
  have hnear := nextDeviation_after_25 hd hn
  rw [← hdev] at hnear
  refine ⟨by omega, by omega, fun hn' => ?_⟩
  have hfixed := nextDeviation_after_29 hd hn'
  rw [← hdev] at hfixed
  omega

/-! ### Many samples of the machine -/

/-- `n` runs of `SAMPLE` outside `Init` sample each channel `n` times. -/
theorem sampleN_channels {s : State} (hinit : s.tickInit = false) (n : Nat) :
    ∃ t, sampleN n s = .next t ∧
      t.vin = (sampleVoltage s.cfg.calVin)^[n] s.vin ∧ t.iin = (sampleCurrent s.cfg.calIin)^[n] s.iin ∧
      t.vout = (sampleVoltage s.cfg.calVout)^[n] s.vout ∧ t.iout = (sampleCurrent s.cfg.calIout)^[n] s.iout := by
  induction n generalizing s with
  | zero => exact ⟨s, rfl, rfl, rfl, rfl, rfl⟩
  | succ n ih =>
    rw [sampleN, exec_sample_of_tickInit_false hinit]
    exact ih hinit

/-- Settles O27: each channel is sampled `n` times, and the deviation of its sum converges. -/
theorem averagesConvergeOnConstantCodes : Obligations.AveragesConvergeOnConstantCodes := by
  unfold Obligations.AveragesConvergeOnConstantCodes
  intro s n hinv hinit hseed hn
  obtain ⟨hw, ⟨⟨hrVin, -⟩, ⟨hrIin, -⟩, ⟨hrVout, -⟩, ⟨hrIout, -⟩, -⟩, -⟩ := hinv
  obtain ⟨hvin, hiin, hvout, hiout⟩ := cals_wellFormed hw
  obtain ⟨t, ht, htVin, htIin, htVout, htIout⟩ := sampleN_channels hinit n
  refine ⟨t, ht, ?_⟩
  change ∀ p ∈ (_ : List (Channel × Channel)), AverageConverged n p.1 p.2
  simp only [List.forall_mem_cons, htVin, htIin, htVout, htIout, sampleVoltage_eq_sampleBy, sampleCurrent_eq_sampleBy]
  exact ⟨averageConverged_sampleBy (voltage_mem hvin hrVin) (hseed s.vin (by simp)) hn,
    averageConverged_sampleBy (current_mem hiin hrIin) (hseed s.iin (by simp)) hn,
    averageConverged_sampleBy (voltage_mem hvout hrVout) (hseed s.vout (by simp)) hn,
    averageConverged_sampleBy (current_mem hiout hrIout) (hseed s.iout (by simp)) hn, List.forall_mem_nil _⟩

end Sys2Proof.Machine
end

section
/-! SUPPORT. The statements of 41_control_law.md: the ranges of the error and of the sum, the word the duty command is
stored in, and the effect of `CTRL` outside `Init`. -/

namespace Sys2Proof.Machine

/-! ### The effect of `CTRL` outside `Init` (41_control_law.md R150, R157) -/

theorem exec_ctrl_of_tickInit_false {s : State} (h : s.tickInit = false) :
    exec .ctrl s = .next { runLaw s with stg := 4 } := by
  rw [exec_eq_effect, effect]
  simp [ctrlStage, h]

/-! ### The error (R151) -/

/-- The reference is a parameter of 16 bits, which no rule changes after reset (10_state.md R29). -/
theorem uval_voref_mem {s : State} (h : Inv s) : 0 ≤ uval s.params.voref ∧ uval s.params.voref ≤ 65535 := by
  obtain ⟨hw, -, ⟨hparams, -⟩, -⟩ := h
  obtain ⟨-, ⟨-, -, -, -, -, -, -, hvoref, -⟩, -⟩ := (Cfg.wellFormed_iff s.cfg).1 hw
  have hreset : uval s.params.voref = s.cfg.vorefInit := by
    rw [hparams]
    exact uval_word_of_inRange (by decide) hvoref
  exact hreset ▸ hvoref

/-- The output voltage is 0 or at least the floor of a voltage, so it is not negative (10_state.md R50 (b)). -/
theorem sval_vout_mem {s : State} (h : Inv s) : 0 ≤ sval s.vout.val ∧ sval s.vout.val ≤ 98286 := by
  obtain ⟨-, ⟨-, -, ⟨-, hval, -⟩, -⟩, -⟩ := h
  omega

theorem ctrlError_mem {s : State} (h : Inv s) : -98286 ≤ ctrlError s ∧ ctrlError s ≤ 65535 := by
  have hvoref := uval_voref_mem h
  have hvout := sval_vout_mem h
  unfold ctrlError
  omega

/-! ### The sum and its saturation (R152) -/

/-- One term of the sum: an error of the history times a signed 16-bit coefficient. -/
theorem error_mul_coefficient_mem {e b : Int} (he : -98286 ≤ e ∧ e ≤ 65535) (hb : InRange b (-32768) 32767) :
    -(98286 * 32768) ≤ e * b ∧ e * b ≤ 98286 * 32768 := by
  have he' : |e| ≤ 98286 := abs_le.2 (by omega)
  have hb' : |b| ≤ 32768 := abs_le.2 (by omega)
  rw [← abs_le, abs_mul]
  exact mul_le_mul he' hb' (abs_nonneg b) (by decide)

/-- The exact sum fits 35 signed bits: the accumulator and three terms. -/
theorem ctrlSum_mem {s : State} (h : Inv s) : -17179869184 < ctrlSum s ∧ ctrlSum s < 17179869184 := by
  have he0 := ctrlError_mem h
  obtain ⟨hw, -, ⟨-, he1, he2, -⟩, -⟩ := h
  obtain ⟨-, ⟨hb0, hb1, hb2, -⟩, -⟩ := (Cfg.wellFormed_iff s.cfg).1 hw
  have hu1_ge := sval_ge s.ctl.u1
  have hu1_lt := sval_lt s.ctl.u1
  have hterm0 := error_mul_coefficient_mem he0 hb0
  have hterm1 := error_mul_coefficient_mem he1 hb1
  have hterm2 := error_mul_coefficient_mem he2 hb2
  unfold ctrlSum
  omega

theorem ctrlOut_eq_max_min (s : State) : ctrlOut s = max (-2147483648) (min (ctrlSum s) 2147483647) :=
  clamp_eq_max_min (by decide)

/-- `U_SAT` is set when the sum was saturated, and kept otherwise. -/
theorem runLaw_uSat_iff (s : State) : (runLaw s).uSat = true ↔ s.uSat = true ∨ ctrlOut s ≠ ctrlSum s := by
  rw [runLaw_uSat, Bool.or_eq_true, decide_eq_true_eq]

/-! ### The duty command (R153 to R155) -/

theorem ctrlDuty_of_enabled {s : State} (hlim : s.cfg.minBuckDuty ≤ uval s.params.buckMaxDuty) (hen : s.outEn = true) :
    ctrlDuty s = max s.cfg.minBuckDuty (min (ctrlOut s / 256) (uval s.params.buckMaxDuty)) := by
  rw [ctrlDuty, if_pos hen, Config.bShift, asr_eight, clamp_eq_max_min hlim]

theorem ctrlDuty_of_disabled {s : State} (hen : s.outEn = false) : ctrlDuty s = s.cfg.minBuckDuty := by
  simp [ctrlDuty, hen]

/-- The duty command fits its register, since both limits do. -/
theorem uval_runLaw_buckDuty {s : State} (h0 : 0 ≤ s.cfg.minBuckDuty)
    (hlim : s.cfg.minBuckDuty ≤ uval s.params.buckMaxDuty) : uval (runLaw s).ctl.buckDuty = ctrlDuty s := by
  obtain ⟨hlo, hhi⟩ := ctrlDuty_mem hlim
  have hmax := uval_lt s.params.buckMaxDuty
  exact uval_word (by omega) (by omega)

/-- The invariants order the limits of the duty command, and `MIN_BUCK_DUTY` is not negative (00_scope.md R8). -/
theorem dutyLimits_ordered {s : State} (h : Inv s) :
    0 ≤ s.cfg.minBuckDuty ∧ s.cfg.minBuckDuty ≤ uval s.params.buckMaxDuty := by
  obtain ⟨hw, -, ⟨-, -, -, ⟨hlo, hhi⟩, -⟩, -⟩ := h
  obtain ⟨-, ⟨-, -, -, hmin, -⟩, -⟩ := (Cfg.wellFormed_iff s.cfg).1 hw
  exact ⟨by omega, hlo.trans hhi⟩

/-- Settles O28: the ranges of the error and the sum make every register hold its exact value. -/
theorem ctrlComputesTheLaw : Obligations.CtrlComputesTheLaw := by
  unfold Obligations.CtrlComputesTheLaw
  intro s hinv hinit
  obtain ⟨he0, he1⟩ := ctrlError_mem hinv
  obtain ⟨hux0, hux1⟩ := ctrlSum_mem hinv
  obtain ⟨hu0, hu1⟩ := ctrlOut_mem s
  obtain ⟨hmin, hlim⟩ := dutyLimits_ordered hinv
  have hduty := uval_runLaw_buckDuty hmin hlim
  have herr1 : sval (word (ctrlError s)) = ctrlError s := sval_word (by omega) (by omega)
  have hacc : sval (word (ctrlOut s)) = ctrlOut s := sval_word hu0 (by omega)
  exact ⟨_, ctrlError s, ctrlSum s, ctrlOut s, exec_ctrl_of_tickInit_false hinit, rfl, he0, he1, rfl, hux0, hux1,
    ctrlOut_eq_max_min s, runLaw_uSat_iff s, by omega, by omega,
    fun hen => hduty.trans (ctrlDuty_of_enabled hlim hen), fun hen => hduty.trans (ctrlDuty_of_disabled hen),
    rfl, herr1, hacc, rfl⟩

/-- Settles O29: the clamp and the override give a duty within the limits, and the register holds it. -/
theorem ctrlDutyIsAlwaysWithinLimits : Obligations.CtrlDutyIsAlwaysWithinLimits := by
  unfold Obligations.CtrlDutyIsAlwaysWithinLimits
  intro s t hinit hmin hlim ht
  obtain rfl := next_inj ((exec_ctrl_of_tickInit_false hinit).symm.trans ht)
  have hduty := uval_runLaw_buckDuty hmin hlim
  obtain ⟨hlo, hhi⟩ := ctrlDuty_mem hlim
  exact ⟨hlo.trans_eq hduty.symm, hduty.trans_le hhi, fun hen => hduty.trans (ctrlDuty_of_disabled hen)⟩

end Sys2Proof.Machine
end

section
/-! SUPPORT. The statements of 42_pwm_mapper.md: the effect of `MAP` outside `Init`, and the 16-bit inputs of its
formulas. -/

namespace Sys2Proof.Machine

/-! ### The effect of `MAP` outside `Init` (42_pwm_mapper.md R176 to R178) -/

theorem exec_map_of_rejects {s : State} (h : s.tickInit = false) (hrej : mapRejects (mapInput s) = true) :
    exec .map s = .next { s with mapErr := true, stg := 0, tickInit := false } := by
  rw [exec_eq_effect, effect]
  simp [mapStage, applyMap, h, hrej]

theorem exec_map_of_accepts {s : State} (h : s.tickInit = false) (hacc : ¬ mapRejects (mapInput s) = true) :
    exec .map s =
      .next { s with out := mapOutputs (mapInput s), mapErr := false, stg := 0, tickInit := false } := by
  rw [exec_eq_effect, effect]
  simp [mapStage, applyMap, h, hacc]

/-! ### The inputs (R170) -/

/-- The invariants keep the inputs of the mapper that are scaled in 16 bits (10_state.md R50 (f), (g)). -/
theorem mapInput_le {s : State} (h : Inv s) :
    uval s.geo.period ≤ 65535 ∧ uval s.geo.half ≤ 65535 ∧ uval s.dutyAct ≤ 65535 := by
  obtain ⟨hw, -, -, ⟨hhalf, hperiod, -⟩, -, ⟨⟨-, hduty⟩, -⟩, -⟩ := h
  obtain ⟨-, -, -, hgeo, -⟩ := (Cfg.wellFormed_iff s.cfg).1 hw
  simp only [Cfg.GeometryOk, InRange] at hgeo hperiod
  exact ⟨by omega, by omega, hduty⟩

/-- Settles O31: a tuple that passes the six conditions is of 16-bit fields, so every register holds its exact value. -/
theorem mapAcceptsAndDrivesTheOutputs : Obligations.MapAcceptsAndDrivesTheOutputs := by
  unfold Obligations.MapAcceptsAndDrivesTheOutputs
  intro s hinv hinit hperiod0 hdead hduty0 hduty hscaled
  obtain ⟨hperiod, hhalf, hact⟩ := mapInput_le hinv
  have hp0 := uval_nonneg s.geo.period
  have hh0 := uval_nonneg s.geo.half
  have hu0 := uval_nonneg s.dutyAct
  have hd0 := uval_nonneg s.geo.dead
  have hacc : ¬ mapRejects (mapInput s) = true := by
    rw [mapRejects_iff]; simp only [mapInput]; omega
  obtain ⟨op, omc, oar, oad, obr, obd, oadc, hmc, had⟩ :=
    mapOutputs_spec (g := mapInput s) ⟨hp0, hperiod⟩ ⟨hh0, hhalf⟩ ⟨hu0, hact⟩ hd0 hscaled
  have har : uval (mapOutputs (mapInput s)).aRst ≤ 268427 := by
    rw [oar]; exact (Int.sub_le_self _ hd0).trans hmc
  have hadc : uval (mapOutputs (mapInput s)).adcTrig = uval (mapOutputs (mapInput s)).aRst / 2 := by rw [oadc, oar]
  have har0 := uval_nonneg (mapOutputs (mapInput s)).aRst
  refine ⟨_, exec_map_of_accepts hinit hacc, rfl, op, omc, oar, oad, obr, obd, hadc, ?_, rfl⟩
  simp only [List.forall_mem_cons]
  exact ⟨omc.trans_le hmc, har, oad.trans_le had, obr ▸ har, obd ▸ oad.trans_le had, by omega, List.forall_mem_nil _⟩

/-- Settles O32: `MAP` sets `MAP_ERR` exactly if it rejects, and it rejects on the six conditions. -/
theorem mapRejectsAndKeepsTheOutputs : Obligations.MapRejectsAndKeepsTheOutputs := by
  unfold Obligations.MapRejectsAndKeepsTheOutputs
  intro s hinit
  have hsix := mapRejects_iff (mapInput s)
  by_cases hrej : mapRejects (mapInput s) = true
  · exact ⟨_, exec_map_of_rejects hinit hrej, iff_of_true rfl (hsix.1 hrej), fun _ => rfl⟩
  · exact ⟨_, exec_map_of_accepts hinit hrej, iff_of_false Bool.false_ne_true (mt hsix.2 hrej),
      fun herr => absurd herr Bool.false_ne_true⟩

end Sys2Proof.Machine
end

section
/-! SUPPORT. The statement of 43_protection.md: the effect of `PROT` outside `Init`, its six comparators bit by bit, and
the signs of what they compare. -/

namespace Sys2Proof.Machine

/-- The effect of `PROT` outside `Init`: the comparators are stored, nothing else changes (43_protection.md R193, R194). -/
theorem exec_prot_of_tickInit_false {s : State} (h : s.tickInit = false) :
    exec .prot s = .next { s with flagsNow := protFlags s, stg := 5 } := by
  rw [exec_eq_effect, effect]
  simp [protStage, h]

/-- Each bit of the mask is its own comparator (43_protection.md R191). -/
theorem getLsbD_protFlags (s : State) :
    ((protFlags s).getLsbD 0 = true ↔ uval s.vin.avg < s.cfg.vinUvpTh) ∧
    ((protFlags s).getLsbD 1 = true ↔ uval s.vin.avg > s.cfg.vinOvpTh) ∧
    ((protFlags s).getLsbD 2 = true ↔ uval s.vout.avg < s.cfg.voutUvpTh) ∧
    ((protFlags s).getLsbD 3 = true ↔ uval s.vout.avg > s.cfg.voutOvpTh) ∧
    ((protFlags s).getLsbD 4 = true ↔ uval s.iout.avg > s.cfg.ioutOcpTh) ∧
    ((protFlags s).getLsbD 5 = true ↔ sval s.iout.val > s.cfg.shortTh) := by
  obtain ⟨h0, h1, h2, h3, h4, h5⟩ := getLsbD_flagSet (decide (uval s.vin.avg < s.cfg.vinUvpTh))
    (decide (uval s.vin.avg > s.cfg.vinOvpTh)) (decide (uval s.vout.avg < s.cfg.voutUvpTh))
    (decide (uval s.vout.avg > s.cfg.voutOvpTh)) (decide (uval s.iout.avg > s.cfg.ioutOcpTh))
    (decide (sval s.iout.val > s.cfg.shortTh))
  simp only [protFlags, h0, h1, h2, h3, h4, h5, decide_eq_true_eq, and_self]

/-- One average is below `VIN_UVP_TH` and above `VIN_OVP_TH` only if the thresholds are crossed with a value between
them (43_protection.md R193). -/
theorem crossed_of_protFlags_vin {s : State} (huvp : (protFlags s).getLsbD 0 = true)
    (hovp : (protFlags s).getLsbD 1 = true) : s.cfg.vinUvpTh > s.cfg.vinOvpTh + 1 := by
  obtain ⟨hbelow, habove, -⟩ := getLsbD_protFlags s
  have hlt := hbelow.1 huvp
  have hgt := habove.1 hovp
  omega

/-- The output current is at least the floor of a current, so it is not negative (10_state.md R50 (b)). -/
theorem sval_iout_nonneg {s : State} (h : Inv s) : 0 ≤ sval s.iout.val := by
  obtain ⟨-, ⟨-, -, -, ⟨-, hval, -⟩, -⟩, -⟩ := h
  omega

/-- The thresholds of a well-formed configuration are not negative (00_scope.md R8). -/
theorem thresholds_nonneg {c : Cfg} (hw : c.WellFormed) :
    ∀ th ∈ [c.vinUvpTh, c.vinOvpTh, c.voutUvpTh, c.voutOvpTh, c.ioutOcpTh, c.shortTh], 0 ≤ th := by
  obtain ⟨-, -, ⟨hvinUvp, hvinOvp, hvoutUvp, hvoutOvp, hocp, hshort⟩, -⟩ := (Cfg.wellFormed_iff c).1 hw
  simp only [List.forall_mem_cons]
  exact ⟨hvinUvp.1, hvinOvp.1, hvoutUvp.1, hvoutOvp.1, hocp.1, hshort.1, List.forall_mem_nil _⟩

/-- Settles O30: the stored mask is the six comparators, and two of them compare one average. -/
theorem protSetsTheSixFlags : Obligations.ProtSetsTheSixFlags := by
  unfold Obligations.ProtSetsTheSixFlags
  intro s hinit
  obtain ⟨hvinUvp, hvinOvp, hvoutUvp, hvoutOvp, hocp, hshort⟩ := getLsbD_protFlags s
  exact ⟨_, exec_prot_of_tickInit_false hinit, hvinUvp, hvinOvp, hvoutUvp, hvoutOvp, hocp, hshort,
    crossed_of_protFlags_vin, fun hinv => ⟨sval_iout_nonneg hinv, thresholds_nonneg hinv.1⟩, rfl⟩

end Sys2Proof.Machine
end

section
/-! SUPPORT. The statements of 44_state_machine.md about one `FSM`: the equation of every transition, the state after the
mode toggle, and what the later steps of R201 keep of it. -/

namespace Sys2Proof.Machine

/-! ### The operation -/

theorem exec_fsm_of_init {s : State} (h : s.state = .init) : exec .fsm s = .next { fsmInit s with stg := 6 } := by
  rw [exec_eq_effect, effect, fsmStage_of_init h]

theorem exec_fsm_of_ne {s : State} (h : s.state ≠ .init) : exec .fsm s = .next { fsmSteps s with stg := 6 } := by
  rw [exec_eq_effect, effect, fsmStage_of_ne h]

theorem Active.ne_init {c : ConvState} (h : Active c) : c ≠ .init := by rintro rfl; simp [Active] at h

theorem Active.ne_err {c : ConvState} (h : Active c) : c ≠ .err := by rintro rfl; simp [Active] at h

theorem active_of_ne {c : ConvState} (hinit : c ≠ .init) (herr : c ≠ .err) : Active c := by
  cases c <;> simp_all [Active]

theorem latchedFault_of_not_trips {s : State} (h : trips (latchFault s) = false) (ha : Active s.state) :
    latchedFault s = 0 := by
  by_contra hne
  exact absurd ((trips_latchFault s).2 ⟨ha, hne⟩) (by simp [h])

/-! ### Step 2: one equation per transition (R202, R204 to R208) -/

theorem transition_of_trip {s : State} (ha : Active s.state) (hf : latchedFault s ≠ 0) :
    transition (latchFault s) = enterErr (latchFault s) := if_pos ((trips_latchFault s).2 ⟨ha, hf⟩)

theorem transition_of_start {s : State} (hs : s.state = .wait) (hf : latchedFault s = 0)
    (he : s.evt.getLsbD 0 = true) : transition (latchFault s) = enterRise (latchFault s) := by
  rw [transition, trips_false_of_fault hf, latchFault_state, hs]
  exact if_pos he

theorem transition_of_no_start {s : State} (hs : s.state = .wait) (hf : latchedFault s = 0)
    (he : s.evt.getLsbD 0 = false) : transition (latchFault s) = latchFault s := by
  rw [transition, trips_false_of_fault hf, latchFault_state, hs]
  exact if_neg (Bool.eq_false_iff.1 he)

theorem transition_of_rise {s : State} (hs : s.state = .rise) (hf : latchedFault s = 0) :
    transition (latchFault s) = latchFault s := by
  rw [transition, trips_false_of_fault hf, latchFault_state, hs]; rfl

theorem transition_of_run {s : State} (hs : s.state = .run) (hf : latchedFault s = 0) :
    transition (latchFault s) = latchFault s := by
  rw [transition, trips_false_of_fault hf, latchFault_state, hs]; rfl

theorem transition_of_ack {s : State} (hs : s.state = .err) (he : s.evt.getLsbD 1 = true) :
    transition (latchFault s) = leaveErr (latchFault s) := by
  rw [transition, trips_false_of_state (fun ha => ha.ne_err hs), latchFault_state, hs]
  exact if_pos he

theorem transition_of_no_ack {s : State} (hs : s.state = .err) (he : s.evt.getLsbD 1 = false) :
    transition (latchFault s) = latchFault s := by
  rw [transition, trips_false_of_state (fun ha => ha.ne_err hs), latchFault_state, hs]
  exact if_neg (Bool.eq_false_iff.1 he)

/-! ### Step 3: the state after the mode toggle (R209) -/

@[simp] theorem toggleMode_geo (s : State) : (toggleMode s).geo = Geometry.default s.cfg := by
  unfold toggleMode; split <;> rfl

/-- The state after steps 1 to 3 of R201: the latch, the transition and the mode toggle. -/
def afterToggle (s : State) : State :=
  toggleIf s.state (trips (latchFault s)) (transition (latchFault s))

/-- The mode is toggled in this tick. -/
abbrev Toggles (s : State) : Prop := s.evt.getLsbD 2 = true ∧ Active s.state ∧ latchedFault s = 0

theorem afterToggle_of_toggles {s : State} (h : Toggles s) :
    afterToggle s = toggleMode (transition (latchFault s)) := by
  obtain ⟨he, ha, hf⟩ := h
  rcases toggleIf_cases s.state (trips (latchFault s)) (transition (latchFault s)) with ⟨-, -, -, heq⟩ | ⟨hne, -⟩
  · exact heq
  · exact absurd ⟨by simpa using he, ha, trips_false_of_fault hf⟩ hne

theorem afterToggle_of_not_toggles {s : State} (h : ¬ Toggles s) :
    afterToggle s = transition (latchFault s) := by
  rcases toggleIf_cases s.state (trips (latchFault s)) (transition (latchFault s)) with ⟨he, ha, ht, -⟩ | ⟨-, heq⟩
  · exact absurd ⟨by simpa using he, ha, latchedFault_of_not_trips ht ha⟩ h
  · exact heq

/-! ### Steps 4 to 6: what they keep -/

theorem fsmSteps_eq (s : State) : fsmSteps s =
    selectDuty (rampIf s.state (trips (latchFault s)) (stepEvents (afterToggle s))) := rfl

theorem fsmSteps_of_rise {s : State} (hs : s.state = .rise) (hf : latchedFault s = 0) :
    fsmSteps s = selectDuty (rampStep (stepEvents (afterToggle s))) := by
  rw [fsmSteps_eq, hs, trips_false_of_fault hf]; rfl

/-- Outside the ramp the state, the ramp and its count are those of the transition. -/
theorem fsmSteps_of_not_ramping {s : State} (h : ¬ (s.state = .rise ∧ latchedFault s = 0)) :
    fsmSteps s = selectDuty (stepEvents (afterToggle s)) := by
  rw [fsmSteps_eq]
  rcases rampIf_cases s.state (trips (latchFault s)) (stepEvents (afterToggle s)) with ⟨hs, ht, -⟩ | ⟨-, heq⟩
  · exact absurd ⟨hs, latchedFault_of_not_trips ht (.inr (.inl hs))⟩ h
  · rw [heq]

@[simp] theorem afterToggle_cfg (s : State) : (afterToggle s).cfg = s.cfg := by simp [afterToggle]
@[simp] theorem afterToggle_evt (s : State) : (afterToggle s).evt = s.evt := by simp [afterToggle]
@[simp] theorem afterToggle_state (s : State) : (afterToggle s).state = (transition (latchFault s)).state := by
  simp [afterToggle]
@[simp] theorem afterToggle_ramp (s : State) : (afterToggle s).ramp = (transition (latchFault s)).ramp := by
  simp [afterToggle]
@[simp] theorem afterToggle_riseCnt (s : State) :
    (afterToggle s).riseCnt = (transition (latchFault s)).riseCnt := by simp [afterToggle]

theorem fsmSteps_outEn (s : State) : (fsmSteps s).outEn = (transition (latchFault s)).outEn := by simp [fsmSteps]
theorem fsmSteps_fault (s : State) : (fsmSteps s).fault = (transition (latchFault s)).fault := by simp [fsmSteps]
theorem fsmSteps_ctl (s : State) : (fsmSteps s).ctl = (afterToggle s).ctl := by simp [fsmSteps_eq]
theorem fsmSteps_uSat (s : State) : (fsmSteps s).uSat = (afterToggle s).uSat := by simp [fsmSteps_eq]
theorem fsmSteps_geo (s : State) : (fsmSteps s).geo = (stepEvents (afterToggle s)).geo := by simp [fsmSteps_eq]
theorem fsmSteps_mode_afterToggle (s : State) : (fsmSteps s).mode = (afterToggle s).mode := fsmSteps_mode s

theorem fsmSteps_state {s : State} (h : ¬ (s.state = .rise ∧ latchedFault s = 0)) :
    (fsmSteps s).state = (transition (latchFault s)).state := by simp [fsmSteps_of_not_ramping h]

/-- What `FSM` may write outside `Init` (44_state_machine.md R201). -/
theorem fsmSteps_frame (s : State) : fsmSteps s =
    { s with
      state := (fsmSteps s).state, mode := (fsmSteps s).mode, outEn := (fsmSteps s).outEn, fault := (fsmSteps s).fault,
      ctl := (fsmSteps s).ctl, uSat := (fsmSteps s).uSat, ramp := (fsmSteps s).ramp, riseCnt := (fsmSteps s).riseCnt,
      dutyAct := (fsmSteps s).dutyAct, geo := (fsmSteps s).geo } := by
  apply State.ext <;> simp

end Sys2Proof.Machine
end

section
/-! SUPPORT. The invariants of 10_state.md R50: the reset values meet them, and every operation keeps them. Between the
transition of a tick and its choice of the active duty, `FSM` keeps a part of them, which each of its steps keeps. -/

namespace Sys2Proof.Machine

/-! ### The values of a valid configuration (00_scope.md R8, R9) -/

theorem minBuckDuty_mem {c : Cfg} (hw : c.WellFormed) :
    1 ≤ c.minBuckDuty ∧ c.minBuckDuty ≤ 65535 ∧ uval (word c.minBuckDuty) = c.minBuckDuty := by
  obtain ⟨-, ⟨-, -, -, hmin, -⟩, -⟩ := (Cfg.wellFormed_iff c).1 hw
  exact ⟨hmin.1, hmin.2, uval_word_of_inRange (by decide) hmin⟩

/-- The upper limit of the duty command is the loaded parameter. -/
theorem buckMaxDuty_mem {c : Cfg} (hw : c.WellFormed) :
    c.minBuckDuty ≤ uval (Params.reset c).buckMaxDuty ∧ uval (Params.reset c).buckMaxDuty ≤ 65535 := by
  obtain ⟨-, ⟨-, -, -, hmin, hmax, -⟩, -⟩ := (Cfg.wellFormed_iff c).1 hw
  have hread : uval (Params.reset c).buckMaxDuty = c.buckMaxDutyInit := uval_word_of_inRange (by omega) hmax
  rw [hread]
  exact hmax

/-! ### The values a reset or a load gives -/

/-- A channel that keeps a 12-bit code and takes the rest of its reset values. -/
theorem channelInv_seedChannel {c : Cfg} (hw : c.WellFormed) {voltage : Bool} {floor v : Int} {ch : Channel}
    (hraw : uval ch.raw ≤ 4095) (hv : (voltage = true ∧ v = 0) ∨ (floor ≤ v ∧ v ≤ 98286 ∧ 0 ≤ v)) :
    ChannelInv voltage floor (seedChannel c v ch) := by
  obtain ⟨⟨-, -, -, -, hseed⟩, -⟩ := (Cfg.wellFormed_iff c).1 hw
  obtain ⟨-, hval, hsum, havg⟩ := channelReset_values (c := c) (v := v) hseed (by omega) (by omega)
  rw [ChannelInv, asr_two]
  simp only [seedChannel]
  rw [hval, hsum, havg]
  refine ⟨hraw, ?_, by omega, by omega⟩
  rcases hv with h | h
  · exact .inl h
  · exact .inr ⟨h.1, h.2.1⟩

/-- A cleared control state with the loaded parameters. -/
theorem controlInv_of_reset {s : State} (hw : s.cfg.WellFormed) (hparams : s.params = Params.reset s.cfg)
    (hctl : s.ctl = Control.reset s.cfg) : ControlInv s := by
  obtain ⟨-, -, hmin⟩ := minBuckDuty_mem hw
  obtain ⟨hlim, -⟩ := buckMaxDuty_mem hw
  rw [ControlInv, hctl, hparams]
  have hzero : -98286 ≤ sval 0#32 ∧ sval 0#32 ≤ 65535 := by decide
  exact ⟨rfl, hzero, hzero, ⟨hmin.ge, hmin.trans_le hlim⟩, fun _ => hmin⟩

theorem geometryInv_of_default {s : State} (hw : s.cfg.WellFormed) (h : s.geo = Geometry.default s.cfg) :
    GeometryInv s := by
  obtain ⟨-, -, -, ⟨hperiod, hhalf, hduty, hdead, -⟩, -⟩ := (Cfg.wellFormed_iff s.cfg).1 hw
  rw [GeometryInv, h]
  exact ⟨uval_word_of_inRange (by decide) hhalf, .inl (uval_word_of_inRange (by decide) hperiod),
    .inl (uval_word_of_inRange (by decide) hduty), .inl (uval_word_of_inRange (by decide) hdead)⟩

/-- The soft start at its start values, with the output disabled and no fault latched, in `Init` or in `Wait`. -/
theorem fsmInv_of_reset {s : State} (hw : s.cfg.WellFormed) (hstate : s.state = .init ∨ s.state = .wait)
    (hout : s.outEn = false) (hfault : s.fault = 0) (hramp : s.ramp = word s.cfg.minBuckDuty) (hcnt : s.riseCnt = 0)
    (hduty : s.dutyAct = word s.cfg.minBuckDuty) : FsmInv s := by
  obtain ⟨h1, h2, hmin⟩ := minBuckDuty_mem hw
  obtain ⟨-, -, -, -, -, hmax⟩ := (Cfg.wellFormed_iff s.cfg).1 hw
  obtain ⟨hrise, hrun, herr⟩ : s.state ≠ .rise ∧ s.state ≠ .run ∧ s.state ≠ .err := by
    rcases hstate with hs | hs <;> simp [hs]
  have hzero : uval s.riseCnt = 0 := by rw [hcnt]; rfl
  rw [FsmInv, hramp, hduty, hout, hfault, hmin, hzero]
  exact ⟨⟨h1, h2⟩, ⟨h1, h2⟩, by omega, fun h => absurd h hrise, by simp [hrise, hrun], by simp [herr], fun _ => rfl⟩

/-- Between ticks the record of the start of a tick is cleared, and nothing more is asked. -/
theorem sequencerInv_of_idle {s : State} (hstg : s.stg = 0) (hinit : s.tickInit = false) : SequencerInv s :=
  ⟨by simp [hstg], fun _ => hinit, by simp [hstg], by simp [hstg]⟩

/-- The reset state of a valid configuration meets the invariants (10_state.md R49, R50). -/
theorem inv_resetWith {c : Cfg} (hw : c.WellFormed) : Inv (State.resetWith c) := by
  have hraw : uval 0#32 ≤ 4095 := by decide
  have hout : uval 0#32 ≤ 268427 := by decide
  have hvoltage : ChannelInv true 100 (Channel.reset c 0) :=
    channelInv_seedChannel hw (ch := Channel.reset c 0) hraw (.inl ⟨rfl, rfl⟩)
  have hcurrent : ChannelInv false 2048 (Channel.reset c Config.iZero) :=
    channelInv_seedChannel hw (ch := Channel.reset c Config.iZero) hraw (.inr (by decide))
  exact ⟨hw, ⟨hvoltage, hcurrent, hvoltage, hcurrent, rfl, rfl⟩, controlInv_of_reset hw rfl rfl,
    geometryInv_of_default hw rfl, ⟨hout, hout, hout, hout, hout, hout, hout⟩,
    fsmInv_of_reset hw (.inl rfl) rfl rfl rfl rfl rfl, sequencerInv_of_idle rfl rfl⟩

/-! ### The stages that leave `STATE` alone -/

/-- The invariants of the sequencer hold at the next stage of the tick, up to `FSM`. -/
theorem sequencerInv_of_next {s t : State} (h : SequencerInv s) (hs : 1 ≤ s.stg.toNat ∧ s.stg.toNat ≤ 5)
    (ht : 1 ≤ t.stg.toNat ∧ t.stg.toNat ≤ 5) (hstate : t.state = s.state) (hinit : t.tickInit = s.tickInit) :
    SequencerInv t := by
  obtain ⟨-, -, hrec, -⟩ := h
  refine ⟨?_, ?_, fun _ => by rw [hstate, hinit]; exact hrec hs, ?_⟩ <;> intro hstg <;> rw [hstg] at ht <;>
    exact absurd ht (by decide)

/-- Moving `STG` alone keeps every invariant but those of the sequencer. -/
theorem inv_of_stg {s : State} (h : Inv s) {n : BitVec 3} (hseq : SequencerInv { s with stg := n }) :
    Inv { s with stg := n } := by
  obtain ⟨hw, hsamp, hctl, hgeo, hout, hfsm, -⟩ := h
  exact ⟨hw, hsamp, hctl, hgeo, hout, hfsm, hseq⟩

theorem channelInv_captureCode {voltage : Bool} {floor : Int} {ch : Channel} (code : BitVec 12)
    (h : ChannelInv voltage floor ch) : ChannelInv voltage floor (captureCode code ch) := by
  obtain ⟨-, hrest⟩ := h
  have hcode : uval (code.zeroExtend 32) = code.toNat := uval_zeroExtend code (by decide)
  exact ⟨by rw [captureCode, hcode]; have := code.isLt; omega, hrest⟩

theorem latchStage_keeps_inv {s : State} (h : Inv s) (hstg : s.stg = 1) : Inv (latchStage s) := by
  obtain ⟨hw, ⟨hvin, hiin, hvout, hiout, hvadj⟩, hctl, hgeo, hout, hfsm, hseq⟩ := h
  exact ⟨hw, ⟨channelInv_captureCode _ hvin, channelInv_captureCode _ hiin, channelInv_captureCode _ hvout,
    channelInv_captureCode _ hiout, hvadj⟩, hctl, hgeo, hout, hfsm,
    sequencerInv_of_next hseq (by rw [hstg]; decide) (by rw [latchStage_stg]; decide) rfl rfl⟩

theorem channelInv_sampleVoltage {cal : Cal} {ch : Channel} (hc : cal.WellFormed) (h : ChannelInv true 100 ch) :
    ChannelInv true 100 (sampleVoltage cal ch) := by
  obtain ⟨hraw, -, hsum, -⟩ := h
  obtain ⟨v0, v, -, -, hv0, hbelow, habove, hraw', hval, -, hsum', havg⟩ := sampleVoltage_spec hc hraw hsum
  exact ⟨by rw [hraw']; exact hraw, by simp only [hval, true_and]; omega, hsum', havg⟩

theorem channelInv_sampleCurrent {cal : Cal} {ch : Channel} (hc : cal.WellFormed) (h : ChannelInv false 2048 ch) :
    ChannelInv false 2048 (sampleCurrent cal ch) := by
  obtain ⟨hraw, -, hsum, -⟩ := h
  obtain ⟨v0, v, -, -, hv0, hbelow, habove, hraw', hval, -, hsum', havg⟩ := sampleCurrent_spec hc hraw hsum
  exact ⟨by rw [hraw']; exact hraw, .inr (by omega), hsum', havg⟩

theorem sampleStage_keeps_inv {s : State} (h : Inv s) (hstg : s.stg = 2) : Inv (sampleStage s) := by
  have hseq : SequencerInv (sampleStage s) := by
    obtain ⟨-, -, -, -, -, -, hseq⟩ := h
    exact sequencerInv_of_next hseq (by rw [hstg]; decide) (by rw [sampleStage_stg]; decide) (by simp) (by simp)
  cases hinit : s.tickInit with
  | true =>
    have heq : sampleStage s = { s with stg := 3 } := by simp [sampleStage, hinit]
    rw [heq] at hseq ⊢
    exact inv_of_stg h hseq
  | false =>
    obtain ⟨hw, ⟨hvin, hiin, hvout, hiout, hvadj⟩, hctl, hgeo, hout, hfsm, -⟩ := h
    obtain ⟨kvin, kiin, kvout, kiout⟩ := cals_wellFormed hw
    rw [sampleStage_of_tickInit_false hinit] at hseq ⊢
    exact ⟨hw, ⟨channelInv_sampleVoltage kvin hvin, channelInv_sampleCurrent kiin hiin,
      channelInv_sampleVoltage kvout hvout, channelInv_sampleCurrent kiout hiout, hvadj⟩, hctl, hgeo, hout, hfsm, hseq⟩

/-- The new error is in its range, the older one moves on, and the duty command is within its limits (R50 (d), (e)). -/
theorem controlInv_runLaw {s : State} (h : Inv s) : ControlInv (runLaw s) := by
  have herr := ctrlError_mem h
  obtain ⟨hmin, hlim⟩ := dutyLimits_ordered h
  have hduty := uval_runLaw_buckDuty hmin hlim
  have hmem := ctrlDuty_mem hlim
  obtain ⟨-, -, ⟨hparams, herr1, -⟩, -⟩ := h
  have hnew : sval (runLaw s).ctl.err1 = ctrlError s := sval_word (by omega) (by omega)
  rw [ControlInv, hduty, hnew]
  exact ⟨hparams, herr, herr1, hmem, fun hen => ctrlDuty_of_disabled hen⟩

theorem ctrlStage_keeps_inv {s : State} (h : Inv s) (hstg : s.stg = 3) : Inv (ctrlStage s) := by
  have hlaw := controlInv_runLaw h
  have hseq : SequencerInv (ctrlStage s) := by
    obtain ⟨-, -, -, -, -, -, hseq⟩ := h
    exact sequencerInv_of_next hseq (by rw [hstg]; decide) (by rw [ctrlStage_stg]; decide) (by simp) (by simp)
  cases hinit : s.tickInit with
  | true =>
    have heq : ctrlStage s = { s with stg := 4 } := by simp [ctrlStage, hinit]
    rw [heq] at hseq ⊢
    exact inv_of_stg h hseq
  | false =>
    obtain ⟨hw, hsamp, -, hgeo, hout, hfsm, -⟩ := h
    have heq : ctrlStage s = { runLaw s with stg := 4 } := by simp [ctrlStage, hinit]
    rw [heq] at hseq ⊢
    exact ⟨hw, hsamp, hlaw, hgeo, hout, hfsm, hseq⟩

/-- `PROT` writes `FLAGS_NOW` and `STG`, and no invariant speaks of `FLAGS_NOW`. -/
theorem protStage_keeps_inv {s : State} (h : Inv s) (hstg : s.stg = 4) : Inv (protStage s) := by
  obtain ⟨hw, hsamp, hctl, hgeo, hout, hfsm, hseq⟩ := h
  have hseq' : SequencerInv (protStage s) :=
    sequencerInv_of_next hseq (by rw [hstg]; decide) (by rw [protStage_stg]; decide) (by simp) (by simp)
  have heq : protStage s = { s with flagsNow := (protStage s).flagsNow, stg := 5 } := by apply State.ext <;> simp
  rw [heq] at hseq' ⊢
  exact ⟨hw, hsamp, hctl, hgeo, hout, hfsm, hseq'⟩

/-! ### `MAP` -/

/-- An accepted tuple gives seven outputs within their bound (R50 (j)). -/
theorem outputInv_mapOutputs {s : State} (h : Inv s) (hacc : ¬ mapRejects (mapInput s) = true) :
    OutputInv { s with out := mapOutputs (mapInput s) } := by
  obtain ⟨hperiod, hhalf, hduty⟩ := mapInput_le h
  have hdead := uval_nonneg s.geo.dead
  have hscaled : uval s.geo.dead ≤ uval s.geo.half * uval s.geo.period / 16000 := by
    rw [mapRejects_iff] at hacc
    simp only [mapInput, not_or, not_lt] at hacc
    exact hacc.2.2.2.2.2
  obtain ⟨op, omc, oar, oad, obr, obd, oadc, hmc, had⟩ := mapOutputs_spec (g := mapInput s)
    ⟨uval_nonneg _, hperiod⟩ ⟨uval_nonneg _, hhalf⟩ ⟨uval_nonneg _, hduty⟩ hdead hscaled
  have har : uval (mapOutputs (mapInput s)).aRst ≤ 268427 := by
    rw [oar]; exact (Int.sub_le_self _ hdead).trans hmc
  rw [← oar] at oadc
  have har0 := uval_nonneg (mapOutputs (mapInput s)).aRst
  exact ⟨op.trans_le (hperiod.trans (by decide)), omc.trans_le hmc, har, oad.trans_le had, obr ▸ har,
    obd ▸ oad.trans_le had, oadc.trans_le (by omega)⟩

theorem mapStage_keeps_inv {s : State} (h : Inv s) : Inv (mapStage s) := by
  have hseq : SequencerInv (mapStage s) := sequencerInv_of_idle rfl rfl
  have hacc := outputInv_mapOutputs h
  obtain ⟨hw, hsamp, hctl, hgeo, hout, hfsm, -⟩ := h
  have hout' : OutputInv (mapStage s) := by
    cases hinit : s.tickInit with
    | true => simpa [mapStage, hinit] using hout
    | false =>
      by_cases hrej : mapRejects (mapInput s) = true
      · simpa [mapStage, applyMap, hinit, hrej] using hout
      · simpa [mapStage, applyMap, hinit, hrej] using hacc hrej
  have heq : mapStage s =
      { s with out := (mapStage s).out, mapErr := (mapStage s).mapErr, stg := 0, tickInit := false } := by
    apply State.ext <;> simp
  rw [heq] at hseq hout' ⊢
  exact ⟨hw, hsamp, hctl, hgeo, hout', hfsm, hseq⟩

/-! ### `FSM`: the steps between the latch and the choice of the duty -/

/-- What holds from the transition of a tick to its choice of the active duty: the invariants of `FSM`'s registers but
those of `DUTY_ACT` (R50 (e), (f), (h), (k)). -/
structure MidTickInv (s : State) : Prop where
  wf : s.cfg.WellFormed
  control : ControlInv s
  geometry : GeometryInv s
  ramp : 1 ≤ uval s.ramp ∧ uval s.ramp ≤ 65535
  count : uval s.riseCnt ≤ s.cfg.riseMaxCycles
  count_rise : s.state = .rise → uval s.riseCnt < s.cfg.riseMaxCycles
  enabled : s.outEn = true ↔ s.state = .rise ∨ s.state = .run
  latched : s.fault ≠ 0 ↔ s.state = .err

theorem midTickInv_enterErr {s : State} (h : Inv s) (hf : latchedFault s ≠ 0) :
    MidTickInv (enterErr (latchFault s)) := by
  obtain ⟨hw, -, ⟨hparams, herr1, herr2, ⟨hlo, hhi⟩, -⟩, hgeo, -, ⟨-, hramp, hcnt, -⟩, -⟩ := h
  obtain ⟨-, -, hmin⟩ := minBuckDuty_mem hw
  exact { wf := hw, geometry := hgeo, ramp := hramp, count := hcnt
          control := ⟨hparams, herr1, herr2, ⟨hmin.ge, hmin.trans_le (hlo.trans hhi)⟩, fun _ => hmin⟩
          count_rise := fun hs => by simp at hs
          enabled := by simp
          latched := by simpa using hf }

theorem midTickInv_enterRise {s : State} (h : Inv s) (hf : latchedFault s = 0) :
    MidTickInv (enterRise (latchFault s)) := by
  obtain ⟨hw, -, ⟨hparams, herr1, herr2, hduty, -⟩, hgeo, -⟩ := h
  obtain ⟨hmin1, hmin2, hmin⟩ := minBuckDuty_mem hw
  obtain ⟨-, -, -, -, -, hmax, -⟩ := (Cfg.wellFormed_iff s.cfg).1 hw
  exact { wf := hw, geometry := hgeo
          control := ⟨hparams, herr1, herr2, hduty, fun hout => by simp at hout⟩
          ramp := ⟨hmin1.trans_eq hmin.symm, hmin.trans_le hmin2⟩
          count := by simp; omega
          count_rise := fun _ => by simp; omega
          enabled := by simp
          latched := by simpa using hf }

theorem midTickInv_leaveErr {s : State} (h : Inv s) (hs : s.state = .err) : MidTickInv (leaveErr (latchFault s)) := by
  obtain ⟨hw, -, hctl, hgeo, -, ⟨-, hramp, hcnt, -, hout, -⟩, -⟩ := h
  exact { wf := hw, control := hctl, geometry := hgeo, ramp := hramp, count := hcnt
          count_rise := fun hrise => by simp at hrise
          enabled := by simpa [hs] using hout
          latched := by simp }

/-- With no transition the latch may add flags in `Err` only. -/
theorem midTickInv_latchFault {s : State} (h : Inv s) (hf : latchedFault s = 0 ∨ s.state = .err) :
    MidTickInv (latchFault s) := by
  obtain ⟨hw, -, hctl, hgeo, -, ⟨-, hramp, hcnt, hrise, hout, hfault, -⟩, -⟩ := h
  refine { wf := hw, control := hctl, geometry := hgeo, ramp := hramp, count := hcnt, count_rise := hrise,
           enabled := hout, latched := ?_ }
  have hor : latchedFault s = 0 → s.fault = 0 := fun h0 => (BitVec.or_eq_zero_iff.1 h0).1
  rw [latchFault_state, latchFault_fault, ← hfault]
  rcases hf with h0 | herr
  · exact iff_of_false (not_not.2 h0) (not_not.2 (hor h0))
  · exact iff_of_true (mt hor (hfault.2 herr)) (hfault.2 herr)

/-- The trip, the start and the acknowledge each bring the enable, the latched fault and the state back in agreement,
which the latch alone may break (44_state_machine.md R222). -/
theorem midTickInv_transition {s : State} (h : Inv s) (hne : s.state ≠ .init) :
    MidTickInv (transition (latchFault s)) := by
  rcases transition_cases (latchFault s) with ⟨htrip, heq⟩ | ⟨htrip, hs, he, heq⟩ | ⟨-, hs, -, heq⟩ | ⟨htrip, -, -, heq⟩
  · rw [heq]
    exact midTickInv_enterErr h ((trips_latchFault s).1 htrip).2
  · rw [heq]
    exact midTickInv_enterRise h (latchedFault_of_not_trips htrip (.inl hs))
  · rw [heq]
    exact midTickInv_leaveErr h hs
  · rw [heq]
    refine midTickInv_latchFault h ?_
    by_cases herr : s.state = .err
    · exact .inr herr
    · exact .inl (latchedFault_of_not_trips htrip (active_of_ne hne herr))

theorem midTickInv_toggleMode {s : State} (h : MidTickInv s) : MidTickInv (toggleMode s) := by
  have hcontrol : ControlInv (toggleMode s) := by
    unfold toggleMode
    split
    · exact controlInv_of_reset h.wf h.control.1 rfl
    · exact h.control
  exact { wf := by simpa using h.wf, control := hcontrol
          geometry := geometryInv_of_default (by simpa using h.wf) (by simp)
          ramp := by simpa using h.ramp
          count := by simpa using h.count
          count_rise := by simpa using h.count_rise
          enabled := by simpa using h.enabled
          latched := by simpa using h.latched }

theorem midTickInv_afterToggle {s : State} (h : Inv s) (hne : s.state ≠ .init) : MidTickInv (afterToggle s) := by
  have htrans := midTickInv_transition h hne
  by_cases ht : Toggles s
  · rw [afterToggle_of_toggles ht]
    exact midTickInv_toggleMode htrans
  · rw [afterToggle_of_not_toggles ht]
    exact htrans

/-! ### `FSM`: the step events (R211 to R217) -/

/-- A clamped result is read back from its register, and is within its bounds. -/
theorem uval_word_clamp {x lo hi lo' : Int} (hlo : InRange lo lo' 65535) (hlo' : 0 ≤ lo') (hhi : InRange hi lo 65535) :
    uval (word (clamp x lo hi)) = max lo (min x hi) ∧ InRange (uval (word (clamp x lo hi))) lo hi := by
  obtain ⟨h0, h1⟩ := clamp_mem (x := x) hhi.1
  have hread : uval (word (clamp x lo hi)) = clamp x lo hi := uval_word (by omega) (by omega)
  rw [hread]
  exact ⟨clamp_eq_max_min hhi.1, h0, h1⟩

theorem uval_word_clamp_period {c : Cfg} (hw : c.WellFormed) (x : Int) :
    uval (word (clamp x c.periodMin c.periodMax)) = max c.periodMin (min x c.periodMax) ∧
    InRange (uval (word (clamp x c.periodMin c.periodMax))) c.periodMin c.periodMax := by
  obtain ⟨-, -, -, ⟨-, -, -, -, hmin, hmax, -⟩, -⟩ := (Cfg.wellFormed_iff c).1 hw
  exact uval_word_clamp hmin (by decide) hmax

theorem uval_word_clamp_duty {c : Cfg} (hw : c.WellFormed) (x : Int) :
    uval (word (clamp x c.dutyMin c.dutyMax)) = max c.dutyMin (min x c.dutyMax) ∧
    InRange (uval (word (clamp x c.dutyMin c.dutyMax))) c.dutyMin c.dutyMax := by
  obtain ⟨-, -, -, ⟨-, -, -, -, -, -, hmin, hmax, -⟩, -⟩ := (Cfg.wellFormed_iff c).1 hw
  exact uval_word_clamp hmin (by decide) hmax

theorem uval_word_clamp_dead {c : Cfg} (hw : c.WellFormed) (x : Int) :
    uval (word (clamp x c.deadMin c.deadMax)) = max c.deadMin (min x c.deadMax) ∧
    InRange (uval (word (clamp x c.deadMin c.deadMax))) c.deadMin c.deadMax := by
  obtain ⟨-, -, -, ⟨-, -, -, -, -, -, -, -, hmin, hmax, -⟩, -⟩ := (Cfg.wellFormed_iff c).1 hw
  exact uval_word_clamp hmin (by decide) hmax

/-- What each step event keeps: the geometry is in its ranges (R50 (f)), which a valid configuration orders. -/
def GeometryInRange (s : State) : Prop := s.cfg.WellFormed ∧ GeometryInv s

theorem stepPeriod_keeps_geometry (delta : Int) {s : State} (h : GeometryInRange s) :
    GeometryInRange (stepPeriod delta s) := by
  obtain ⟨hw, hhalf, -, hduty, hdead⟩ := h
  exact ⟨hw, hhalf, .inr (uval_word_clamp_period hw _).2, hduty, hdead⟩

theorem stepDuty_keeps_geometry (delta : Int) {s : State} (h : GeometryInRange s) :
    GeometryInRange (stepDuty delta s) := by
  obtain ⟨hw, hhalf, hperiod, -, hdead⟩ := h
  exact ⟨hw, hhalf, hperiod, .inr (uval_word_clamp_duty hw _).2, hdead⟩

theorem stepDead_keeps_geometry (delta : Int) {s : State} (h : GeometryInRange s) :
    GeometryInRange (stepDead delta s) := by
  obtain ⟨hw, hhalf, hperiod, hduty, -⟩ := h
  exact ⟨hw, hhalf, hperiod, hduty, .inr (uval_word_clamp_dead hw _).2⟩

theorem onEvent_keeps_geometry {f : State → State} (hf : ∀ s, GeometryInRange s → GeometryInRange (f s)) (e : Event)
    {s : State} (h : GeometryInRange s) : GeometryInRange (onEvent e f s) := by
  unfold onEvent
  split
  · exact hf s h
  · exact h

theorem stepEvents_keeps_geometry {s : State} (h : GeometryInRange s) : GeometryInRange (stepEvents s) := by
  unfold stepEvents
  split
  · unfold applySteps
    exact onEvent_keeps_geometry (fun _ => stepDead_keeps_geometry _) _ <|
      onEvent_keeps_geometry (fun _ => stepDead_keeps_geometry _) _ <|
      onEvent_keeps_geometry (fun _ => stepDuty_keeps_geometry _) _ <|
      onEvent_keeps_geometry (fun _ => stepDuty_keeps_geometry _) _ <|
      onEvent_keeps_geometry (fun _ => stepPeriod_keeps_geometry _) _ <|
      onEvent_keeps_geometry (fun _ => stepPeriod_keeps_geometry _) _ h
  · exact h

theorem midTickInv_stepEvents {s : State} (h : MidTickInv s) : MidTickInv (stepEvents s) := by
  obtain ⟨-, hgeo⟩ := stepEvents_keeps_geometry ⟨h.wf, h.geometry⟩
  rw [stepEvents_eq s] at hgeo ⊢
  exact { h with geometry := hgeo }

/-! ### `FSM`: the ramp and the active duty (R218, R219) -/

/-- The target of the ramp is a 16-bit duty, not 0. -/
theorem setpoint_mem {s : State} (h : MidTickInv s) : 1 ≤ uval (setpoint s) ∧ uval (setpoint s) ≤ 65535 := by
  obtain ⟨hmin, -⟩ := minBuckDuty_mem h.wf
  obtain ⟨-, hlim⟩ := buckMaxDuty_mem h.wf
  obtain ⟨-, -, -, ⟨-, -, hdef, -, -, -, hlo, hhi, -⟩, -⟩ := (Cfg.wellFormed_iff s.cfg).1 h.wf
  obtain ⟨hparams, -, -, hduty, -⟩ := h.control
  obtain ⟨-, -, hgeo, -⟩ := h.geometry
  rw [hparams] at hduty
  simp only [InRange] at hdef hlo hhi hgeo
  unfold setpoint
  split <;> omega

/-- The next ramp value and the next count are read back as they were formed (R218). -/
theorem uval_nextRamp {s : State} (h : MidTickInv s) :
    uval (nextRamp s) = min (uval s.ramp + s.cfg.riseStep) (uval (setpoint s)) := by
  obtain ⟨hlo, hhi⟩ := setpoint_mem h
  obtain ⟨hramp, -⟩ := h.ramp
  obtain ⟨-, -, -, -, hstep, -⟩ := (Cfg.wellFormed_iff s.cfg).1 h.wf
  rw [nextRamp, minInt_eq_min]
  exact uval_word (by omega) (by omega)

theorem uval_nextRiseCnt {s : State} (h : MidTickInv s) : uval (nextRiseCnt s) = uval s.riseCnt + 1 := by
  have hcnt := h.count
  have h0 := uval_nonneg s.riseCnt
  obtain ⟨-, -, -, -, -, hmax⟩ := (Cfg.wellFormed_iff s.cfg).1 h.wf
  exact uval_word (by omega) (by omega)

/-- The soft start ends when the ramp reaches the target or the count its bound (R218). -/
theorem rampDone_iff (s : State) : rampDone s = true ↔
    uval (nextRamp s) ≥ uval (setpoint s) ∨ uval (nextRiseCnt s) ≥ s.cfg.riseMaxCycles := by
  rw [rampDone, Bool.or_eq_true, decide_eq_true_eq, decide_eq_true_eq]

theorem midTickInv_rampStep {s : State} (h : MidTickInv s) (hs : s.state = .rise) : MidTickInv (rampStep s) := by
  have hramp := uval_nextRamp h
  have hcnt := uval_nextRiseCnt h
  have hlt := h.count_rise hs
  have hset := setpoint_mem h
  have hold := h.ramp
  obtain ⟨-, -, -, -, hstep, -⟩ := (Cfg.wellFormed_iff s.cfg).1 h.wf
  have hnext : (rampStep s).state = .run ∧ rampDone s = true ∨ (rampStep s).state = .rise ∧ ¬ rampDone s = true := by
    cases hd : rampDone s <;> simp [hd, hs]
  exact { wf := h.wf, control := h.control, geometry := h.geometry
          ramp := by rw [rampStep_ramp, hramp]; omega
          count := by rw [rampStep_riseCnt, hcnt]; exact hlt
          count_rise := fun hrise => by
            rcases hnext with ⟨hrun, -⟩ | ⟨-, hd⟩
            · rw [hrun] at hrise; cases hrise
            · rw [rampDone_iff, not_or] at hd
              exact lt_of_not_ge hd.2
          enabled := by
            rw [rampStep_outEn, h.enabled, hs]
            rcases hnext with ⟨hrun, -⟩ | ⟨hrise, -⟩
            · rw [hrun]; decide
            · rw [hrise]
          latched := by
            rw [rampStep_fault, h.latched, hs]
            rcases hnext with ⟨hrun, -⟩ | ⟨hrise, -⟩
            · rw [hrun]; decide
            · rw [hrise] }

theorem fsmInv_selectDuty {s : State} (h : MidTickInv s) (hne : s.state ≠ .init) : FsmInv (selectDuty s) := by
  obtain ⟨hmin1, hmin2, hmin⟩ := minBuckDuty_mem h.wf
  have hduty : (1 ≤ uval (activeDuty s) ∧ uval (activeDuty s) ≤ 65535) ∧
      (s.state = .wait ∨ s.state = .err → uval (activeDuty s) = s.cfg.minBuckDuty) := by
    cases hs : s.state with
    | init => exact absurd hs hne
    | wait => simp [activeDuty, hs, hmin, hmin1, hmin2]
    | rise => simpa [activeDuty, hs] using h.ramp
    | run => simpa [activeDuty, hs] using setpoint_mem h
    | err => simp [activeDuty, hs, hmin, hmin1, hmin2]
  exact ⟨hduty.1, h.ramp, h.count, h.count_rise, h.enabled, h.latched, hduty.2⟩

/-! ### `FSM` and the inputs -/

/-- No step of `FSM` outside `Init` goes back to `Init` (44_state_machine.md R221). -/
theorem transition_ne_init {s : State} (h : s.state ≠ .init) : (transition (latchFault s)).state ≠ .init := by
  rcases transition_cases (latchFault s) with ⟨-, heq⟩ | ⟨-, -, -, heq⟩ | ⟨-, -, -, heq⟩ | ⟨-, -, -, heq⟩ <;>
    rw [heq] <;> simp [h]

theorem fsmSteps_keeps_inv {s : State} (h : Inv s) (hne : s.state ≠ .init) :
    ControlInv (fsmSteps s) ∧ GeometryInv (fsmSteps s) ∧ FsmInv (fsmSteps s) ∧ (fsmSteps s).state ≠ .init := by
  have hmid := midTickInv_stepEvents (midTickInv_afterToggle h hne)
  have hne' : (stepEvents (afterToggle s)).state ≠ .init := by simpa using transition_ne_init hne
  by_cases hramp : s.state = .rise ∧ latchedFault s = 0
  · obtain ⟨hs, hf⟩ := hramp
    have hrise : (stepEvents (afterToggle s)).state = .rise := by simp [transition_of_rise hs hf, hs]
    have hmid' := midTickInv_rampStep hmid hrise
    have hne'' : (rampStep (stepEvents (afterToggle s))).state ≠ .init := by
      rw [rampStep_state]; split
      · decide
      · exact hne'
    rw [fsmSteps_of_rise hs hf]
    exact ⟨hmid'.control, hmid'.geometry, fsmInv_selectDuty hmid' hne'', hne''⟩
  · rw [fsmSteps_of_not_ramping hramp]
    exact ⟨hmid.control, hmid.geometry, fsmInv_selectDuty hmid hne', hne'⟩

/-- The load seeds the channels, clears the control state and the soft start, and enters `Wait` (R203). -/
theorem fsmInit_keeps_inv {s : State} (h : Inv s) : Inv { fsmInit s with stg := 6 } := by
  obtain ⟨hw, ⟨⟨hvin, -⟩, ⟨hiin, -⟩, ⟨hvout, -⟩, ⟨hiout, -⟩, hvadj⟩, -, -, hout, -⟩ := h
  have hfsm : FsmInv (fsmInit s) := fsmInv_of_reset (s := fsmInit s) hw (.inr rfl) rfl rfl rfl rfl rfl
  exact ⟨hw, ⟨channelInv_seedChannel hw hvin (.inl ⟨rfl, rfl⟩), channelInv_seedChannel hw hiin (.inr (by decide)),
    channelInv_seedChannel hw hvout (.inl ⟨rfl, rfl⟩), channelInv_seedChannel hw hiout (.inr (by decide)), hvadj⟩,
    controlInv_of_reset (s := fsmInit s) hw rfl rfl, geometryInv_of_default (s := fsmInit s) hw rfl, hout, hfsm,
    by simp, by simp, by simp, by simp⟩

theorem fsmStage_keeps_inv {s : State} (h : Inv s) (hstg : s.stg = 5) : Inv (fsmStage s) := by
  by_cases hinit : s.state = .init
  · rw [fsmStage_of_init hinit]
    exact fsmInit_keeps_inv h
  · obtain ⟨hctl, hgeo, hfsm, hne⟩ := fsmSteps_keeps_inv h hinit
    obtain ⟨hw, hsamp, -, -, hout, -, -, -, hrec, -⟩ := h
    have hrec : s.tickInit = false := by simpa [hinit] using hrec (by rw [hstg]; decide)
    have hw' : (fsmSteps s).cfg.WellFormed := by rw [fsmSteps_cfg]; exact hw
    have hsamp' : SamplerInv (fsmSteps s) := by rw [fsmSteps_frame]; exact hsamp
    have hout' : OutputInv (fsmSteps s) := by rw [fsmSteps_frame]; exact hout
    rw [fsmStage_of_ne hinit]
    exact ⟨hw', hsamp', hctl, hgeo, hout', hfsm, by simp, by simp, by simp, fun _ => ⟨hne, by simp [hrec]⟩⟩

theorem takeInput_keeps_inv {s : State} (h : Inv s) : Inv (takeInput s).2 := by
  rw [takeInput_frame s]
  exact h

/-- A `tick` strobe records the state the tick starts in (log 7). -/
theorem tickEvent_keeps_inv {s : State} (codes : AdcCodes) (h : Inv s) : Inv (tickEvent codes s) := by
  obtain ⟨hw, hsamp, hctl, hgeo, hout, hfsm, -⟩ := h
  exact ⟨hw, hsamp, hctl, hgeo, hout, hfsm, by simp, by simp, by simp, by simp⟩

/-- The registers that a `RESET` keeps are in no invariant. -/
theorem inv_resetEvent {s : State} (hw : s.cfg.WellFormed) : Inv (resetEvent s) := inv_resetWith hw

/-- Settles O44, by the inversion of the step: each of the six stages, the two strobes and a host word keeps the
invariants. -/
theorem everyStepKeepsTheInvariants : Obligations.EveryStepKeepsTheInvariants := by
  unfold Obligations.EveryStepKeepsTheInvariants
  intro s t hinv hstep
  obtain ⟨hw, ⟨hstg, rfl⟩ | ⟨hstg, rfl⟩ | ⟨hstg, rfl⟩ | ⟨hstg, rfl⟩ | ⟨hstg, rfl⟩ | ⟨-, rfl⟩ | ⟨-, -, rfl⟩ |
    ⟨-, codes, -, rfl⟩ | ⟨-, hframe, -⟩⟩ := step_inversion hstep
  · exact latchStage_keeps_inv hinv hstg
  · exact sampleStage_keeps_inv hinv hstg
  · exact ctrlStage_keeps_inv hinv hstg
  · exact protStage_keeps_inv hinv hstg
  · exact fsmStage_keeps_inv hinv hstg
  · exact mapStage_keeps_inv hinv
  · exact inv_resetEvent (by rw [(takeInput_cfg_mode s).1]; exact hw)
  · exact tickEvent_keeps_inv codes (takeInput_keeps_inv hinv)
  · rw [hframe]
    exact hinv

end Sys2Proof.Machine
end

section
/-! SUPPORT. The statements of 44_state_machine.md about one `LATCH` and one `FSM`: the snapshot, the trip, the transition
table, the mode toggle, the step events, the ramp and the active duty. -/

namespace Sys2Proof.Machine

/-- Settles O23: each code is read back from the register it is zero-extended into. -/
theorem latchTakesTheSnapshot : Obligations.LatchTakesTheSnapshot := by
  unfold Obligations.LatchTakesTheSnapshot
  intro s
  have hcode (code : BitVec 12) : uval (code.zeroExtend 32) = code.toNat := uval_zeroExtend code (by decide)
  exact ⟨latchStage s, exec_eq_effect _ s, rfl, rfl, hcode _, hcode _, hcode _, hcode _, rfl⟩

/-! ### The trip and the transition table (R204 to R208, R221) -/

theorem not_ramping_of_trip {s : State} (hf : latchedFault s ≠ 0) : ¬ (s.state = .rise ∧ latchedFault s = 0) :=
  fun h => hf h.2

theorem not_toggles_of_trip {s : State} (hf : latchedFault s ≠ 0) : ¬ Toggles s := fun ⟨_, _, h⟩ => hf h

theorem not_toggles_of_err {s : State} (hs : s.state = .err) : ¬ Toggles s := fun ⟨_, ha, _⟩ => ha.ne_err hs

theorem fsmSteps_of_trip {s : State} (ha : Active s.state) (hf : latchedFault s ≠ 0) :
    fsmSteps s = selectDuty (stepEvents (enterErr (latchFault s))) := by
  rw [fsmSteps_of_not_ramping (not_ramping_of_trip hf), afterToggle_of_not_toggles (not_toggles_of_trip hf),
    transition_of_trip ha hf]

/-- Settles O35: the trip, then the step events, then the choice of the disabled duty. -/
theorem fsmTripsOnALatchedFault : Obligations.FsmTripsOnALatchedFault := by
  unfold Obligations.FsmTripsOnALatchedFault
  intro s hw ha hf
  obtain ⟨-, -, hmin⟩ := minBuckDuty_mem hw
  refine ⟨_, exec_fsm_of_ne ha.ne_init, ?_⟩
  rw [fsmSteps_of_trip ha hf]
  refine ⟨by simp, by simp, by simpa using hmin, by simpa [activeDuty] using hmin, by simp, ?_, by simp, ?_⟩
  · exact fun h => stepEvents_geo_eq (s := enterErr (latchFault s)) h
  · apply State.ext <;> simp

/-- The ramp step ends in `Run` exactly on one of its two conditions, and in `Rise` else (R218). -/
theorem rampStep_state_iff {s : State} (hs : s.state = .rise) :
    ((rampStep s).state = .run ↔
      uval (rampStep s).ramp ≥ uval (setpoint s) ∨ uval (rampStep s).riseCnt ≥ s.cfg.riseMaxCycles) ∧
    ((rampStep s).state = .run ∨ (rampStep s).state = .rise) := by
  rw [rampStep_ramp, rampStep_riseCnt, ← rampDone_iff, rampStep_state, hs]
  cases rampDone s <;> simp

/-- Settles O36, row by row: each row names its transition, and the later steps keep what it wrote. -/
theorem fsmFollowsTheTransitionTable : Obligations.FsmFollowsTheTransitionTable := by
  unfold Obligations.FsmFollowsTheTransitionTable
  intro s
  by_cases hinit : s.state = .init
  · exact ⟨_, exec_fsm_of_init hinit, by simp [hinit]⟩
  have not_rise {c : ConvState} (hs : s.state = c) (hc : c ≠ .rise) : ¬ (s.state = .rise ∧ latchedFault s = 0) :=
    fun h => hc (hs ▸ h.1)
  refine ⟨_, exec_fsm_of_ne hinit, fun h => absurd h hinit, ?fault, ?trip, ?start, ?wait, ?rise, ?run, ?ack, ?err⟩ <;>
    simp only [fsmSteps_fault, fsmSteps_outEn]
  case fault =>
    rintro ⟨-, hack⟩
    rcases transition_cases (latchFault s) with ⟨-, heq⟩ | ⟨-, -, -, heq⟩ | ⟨-, hs, he, -⟩ | ⟨-, -, -, heq⟩
    · rw [heq]; rfl
    · rw [heq]; rfl
    · exact absurd ⟨hs, he⟩ hack
    · rw [heq]; rfl
  case trip =>
    rintro ⟨ha, hf⟩
    rw [fsmSteps_state (not_ramping_of_trip hf), transition_of_trip ha hf]
    exact ⟨rfl, rfl⟩
  case start =>
    rintro ⟨hs, hf, he⟩
    rw [fsmSteps_of_not_ramping (not_rise hs (by decide))]
    simp [transition_of_start hs hf he]
  case wait =>
    rintro ⟨hs, hf, he⟩
    rw [fsmSteps_state (not_rise hs (by decide)), transition_of_no_start hs hf he]
    exact ⟨hs, rfl⟩
  case rise =>
    rintro ⟨hs, hf⟩
    have hrise : (stepEvents (afterToggle s)).state = .rise := by simp [transition_of_rise hs hf, hs]
    obtain ⟨hiff, hor⟩ := rampStep_state_iff hrise
    have hcfg : (stepEvents (afterToggle s)).cfg = s.cfg := by simp
    rw [fsmSteps_of_rise hs hf, transition_of_rise hs hf, ← hcfg]
    generalize stepEvents (afterToggle s) = x at hiff hor ⊢
    exact ⟨hor.symm, rfl, hiff⟩
  case run =>
    rintro ⟨hs, hf⟩
    rw [fsmSteps_state (not_rise hs (by decide)), transition_of_run hs hf]
    exact ⟨hs, rfl⟩
  case ack =>
    rintro ⟨hs, he⟩
    rw [fsmSteps_state (not_rise hs (by decide)), transition_of_ack hs he]
    exact ⟨rfl, rfl, rfl⟩
  case err =>
    rintro ⟨hs, he⟩
    rw [fsmSteps_state (not_rise hs (by decide)), transition_of_no_ack hs he]
    exact ⟨hs, rfl⟩

/-! ### The active duty (R219) -/

/-- Settles O40: the duty is chosen last, so it speaks of the final registers. -/
theorem fsmSelectsTheActiveDuty : Obligations.FsmSelectsTheActiveDuty := by
  unfold Obligations.FsmSelectsTheActiveDuty
  intro s hinit
  refine ⟨_, exec_fsm_of_ne hinit, ?_⟩
  have hcfg : (rampIf s.state (trips (latchFault s)) (stepEvents (afterToggle s))).cfg = s.cfg := by simp
  rw [fsmSteps_eq, ← hcfg]
  generalize rampIf s.state (trips (latchFault s)) (stepEvents (afterToggle s)) = d
  simp only [selectDuty_state, selectDuty_mode, selectDuty_ctl, selectDuty_geo, selectDuty_ramp, selectDuty_dutyAct]
  refine ⟨fun hs => by simp [activeDuty, hs], fun hs hm => by simp [activeDuty, setpoint, hs, hm],
    fun hs hm => by simp [activeDuty, setpoint, hs, hm], ?_⟩
  rintro (hs | hs) <;> simp [activeDuty, hs]

/-! ### The mode toggle (R209, R210) -/

theorem otherMode_ne (m : OpMode) : otherMode m ≠ m := by cases m <;> decide

@[simp] theorem toggleMode_mode (s : State) : (toggleMode s).mode = otherMode s.mode := by
  unfold toggleMode; split <;> rfl

/-- Entering `CloseLoop` clears the control state (41_control_law.md R159). -/
theorem toggleMode_to_closeLoop {s : State} (h : (toggleMode s).mode = .closeLoop) :
    (toggleMode s).ctl = Control.reset s.cfg ∧ (toggleMode s).uSat = false := by
  rw [toggleMode_mode] at h
  rw [toggleMode, if_pos h]
  exact ⟨rfl, rfl⟩

/-- Entering `OpenLoop` keeps the control state. -/
theorem toggleMode_to_openLoop {s : State} (h : (toggleMode s).mode = .openLoop) :
    (toggleMode s).ctl = s.ctl ∧ (toggleMode s).uSat = s.uSat := by
  rw [toggleMode_mode] at h
  rw [toggleMode, if_neg (by rw [h]; decide)]
  exact ⟨rfl, rfl⟩

/-- No transition writes the control history, and only the trip writes the duty command. -/
theorem transition_history (s : State) : (transition (latchFault s)).ctl.u1 = s.ctl.u1 ∧
    (transition (latchFault s)).ctl.err1 = s.ctl.err1 ∧ (transition (latchFault s)).ctl.err2 = s.ctl.err2 ∧
    (latchedFault s = 0 → (transition (latchFault s)).ctl = s.ctl) := by
  rcases transition_cases (latchFault s) with ⟨htrip, heq⟩ | ⟨-, -, -, heq⟩ | ⟨-, -, -, heq⟩ | ⟨-, -, -, heq⟩ <;> rw [heq]
  · exact ⟨rfl, rfl, rfl, fun hf => absurd hf ((trips_latchFault s).1 htrip).2⟩
  · exact ⟨rfl, rfl, rfl, fun _ => rfl⟩
  · exact ⟨rfl, rfl, rfl, fun _ => rfl⟩
  · exact ⟨rfl, rfl, rfl, fun _ => rfl⟩

/-- The geometry the step events start from: the default one after a toggle, else the one before (R209, R211). -/
theorem afterToggle_geo (s : State) :
    (Toggles s → (afterToggle s).geo = Geometry.default s.cfg ∧ (afterToggle s).mode ≠ s.mode) ∧
    (¬ Toggles s → (afterToggle s).geo = s.geo ∧ (afterToggle s).mode = s.mode) := by
  refine ⟨fun ht => ?_, fun ht => ?_⟩
  · rw [afterToggle_of_toggles ht]
    simp [otherMode_ne]
  · rw [afterToggle_of_not_toggles ht]
    simp

/-- The requested geometry of the next state when no step event counts. -/
theorem fsmSteps_geo_eq {s : State} (h : (fsmSteps s).mode = .closeLoop ∨ NoStepEvent s) :
    (fsmSteps s).geo = (afterToggle s).geo := by
  rw [fsmSteps_geo]
  rw [fsmSteps_mode_afterToggle] at h
  exact stepEvents_geo_eq (by simpa only [NoStepEvent, afterToggle_evt] using h)

/-- A tick that toggles does not trip: the next state is that of its transition or of its ramp (R221). -/
theorem fsmSteps_state_of_toggles {s : State} (hf : latchedFault s = 0) :
    (s.state = .wait → (fsmSteps s).state = if s.evt.getLsbD 0 then .rise else .wait) ∧
    (s.state = .rise → (fsmSteps s).state = .rise ∨ (fsmSteps s).state = .run) ∧
    (s.state = .run → (fsmSteps s).state = .run) := by
  refine ⟨fun hs => ?_, fun hs => ?_, fun hs => ?_⟩
  · rw [fsmSteps_state (by simp [hs])]
    cases he : s.evt.getLsbD 0 with
    | true => rw [transition_of_start hs hf he]; rfl
    | false => rw [transition_of_no_start hs hf he]; exact hs
  · have hrise : (stepEvents (afterToggle s)).state = .rise := by simp [transition_of_rise hs hf, hs]
    rw [fsmSteps_of_rise hs hf]
    exact (rampStep_state_iff hrise).2.symm
  · rw [fsmSteps_state (by simp [hs]), transition_of_run hs hf]
    exact hs

/-- Settles O37: the state after step 3 is the transition's, toggled or not. -/
theorem fsmTogglesTheMode : Obligations.FsmTogglesTheMode := by
  unfold Obligations.FsmTogglesTheMode
  intro s hinit
  refine ⟨_, exec_fsm_of_ne hinit, fun ht => ?honoured, fun ht => ?dropped⟩
  case honoured =>
    obtain ⟨hgeo, hmode⟩ := (afterToggle_geo s).1 ht
    have hf : latchedFault s = 0 := ht.2.2
    have heq := afterToggle_of_toggles ht
    obtain ⟨-, -, -, hctl⟩ := transition_history s
    refine ⟨by rwa [← fsmSteps_mode_afterToggle] at hmode, fun h => (fsmSteps_geo_eq h).trans hgeo, fun h => ?closeLoop,
      fun h => ?openLoop, fsmSteps_state_of_toggles hf⟩ <;>
      simp only [fsmSteps_mode_afterToggle, fsmSteps_ctl, fsmSteps_uSat, heq] at h ⊢
    case closeLoop => simpa using toggleMode_to_closeLoop h
    case openLoop => simpa [hctl hf] using toggleMode_to_openLoop h
  case dropped =>
    have hnot : ¬ Toggles s := by
      rintro ⟨he, ha, hf⟩
      rcases ht with h | h | h
      · rw [h] at he; cases he
      · exact ha.ne_err h
      · exact h hf
    obtain ⟨hgeo, -⟩ := (afterToggle_geo s).2 hnot
    obtain ⟨hu1, herr1, herr2, -⟩ := transition_history s
    refine ⟨fun h => (fsmSteps_geo_eq h).trans hgeo, ?_⟩
    simp only [fsmSteps_mode_afterToggle, fsmSteps_uSat, fsmSteps_geo, stepEvents_half, fsmSteps_ctl,
      afterToggle_of_not_toggles hnot, hu1, herr1, herr2]
    simp

/-! ### The step events (R211 to R217) -/

/-- A bounded delta, applied if its event is there. -/
def stepIf (present : Bool) (x delta lo hi : Int) : Int := if present then max lo (min (x + delta) hi) else x

theorem uval_onEvent_period {s : State} (hw : s.cfg.WellFormed) (e : Event) (delta : Int) :
    uval (onEvent e (stepPeriod delta) s).geo.period =
      stepIf (hasEvent s e) (uval s.geo.period) delta s.cfg.periodMin s.cfg.periodMax := by
  unfold onEvent stepIf
  split
  · exact (uval_word_clamp_period hw _).1
  · rfl

theorem uval_onEvent_duty {s : State} (hw : s.cfg.WellFormed) (e : Event) (delta : Int) :
    uval (onEvent e (stepDuty delta) s).geo.duty =
      stepIf (hasEvent s e) (uval s.geo.duty) delta s.cfg.dutyMin s.cfg.dutyMax := by
  unfold onEvent stepIf
  split
  · exact (uval_word_clamp_duty hw _).1
  · rfl

theorem uval_onEvent_dead {s : State} (hw : s.cfg.WellFormed) (e : Event) (delta : Int) :
    uval (onEvent e (stepDead delta) s).geo.dead =
      stepIf (hasEvent s e) (uval s.geo.dead) delta s.cfg.deadMin s.cfg.deadMax := by
  unfold onEvent stepIf
  split
  · exact (uval_word_clamp_dead hw _).1
  · rfl

/-- Each step writes its own field of the geometry. -/
@[simp] theorem onEvent_stepDuty_period (e : Event) (d : Int) (s : State) :
    (onEvent e (stepDuty d) s).geo.period = s.geo.period := onEvent_keeps (·.geo.period) e _ s rfl
@[simp] theorem onEvent_stepDead_period (e : Event) (d : Int) (s : State) :
    (onEvent e (stepDead d) s).geo.period = s.geo.period := onEvent_keeps (·.geo.period) e _ s rfl
@[simp] theorem onEvent_stepPeriod_duty (e : Event) (d : Int) (s : State) :
    (onEvent e (stepPeriod d) s).geo.duty = s.geo.duty := onEvent_keeps (·.geo.duty) e _ s rfl
@[simp] theorem onEvent_stepDead_duty (e : Event) (d : Int) (s : State) :
    (onEvent e (stepDead d) s).geo.duty = s.geo.duty := onEvent_keeps (·.geo.duty) e _ s rfl
@[simp] theorem onEvent_stepPeriod_dead (e : Event) (d : Int) (s : State) :
    (onEvent e (stepPeriod d) s).geo.dead = s.geo.dead := onEvent_keeps (·.geo.dead) e _ s rfl
@[simp] theorem onEvent_stepDuty_dead (e : Event) (d : Int) (s : State) :
    (onEvent e (stepDuty d) s).geo.dead = s.geo.dead := onEvent_keeps (·.geo.dead) e _ s rfl

/-- The six step events as two bounded deltas on each of the three fields, in their fixed order (R211). -/
theorem uval_applySteps {s : State} (hw : s.cfg.WellFormed) :
    uval (applySteps s).geo.period =
      stepIf (s.evt.getLsbD 4)
        (stepIf (s.evt.getLsbD 3) (uval s.geo.period) (-s.cfg.periodStep) s.cfg.periodMin s.cfg.periodMax)
        s.cfg.periodStep s.cfg.periodMin s.cfg.periodMax ∧
    uval (applySteps s).geo.duty =
      stepIf (s.evt.getLsbD 6)
        (stepIf (s.evt.getLsbD 5) (uval s.geo.duty) s.cfg.dutyStep s.cfg.dutyMin s.cfg.dutyMax)
        (-s.cfg.dutyStep) s.cfg.dutyMin s.cfg.dutyMax ∧
    uval (applySteps s).geo.dead =
      stepIf (s.evt.getLsbD 8)
        (stepIf (s.evt.getLsbD 7) (uval s.geo.dead) s.cfg.deadStep s.cfg.deadMin s.cfg.deadMax)
        (-s.cfg.deadStep) s.cfg.deadMin s.cfg.deadMax := by
  simp only [applySteps, onEvent_stepDuty_period, onEvent_stepDead_period, onEvent_stepDead_duty]
  refine ⟨?period, ?duty, ?dead⟩
  case period =>
    rw [uval_onEvent_period (by rw [(onStep_cfg _ _ _).1]; exact hw), uval_onEvent_period hw]
    simp only [onStep_cfg, hasEvent, onStep_evt, Event.num]
  case duty =>
    rw [uval_onEvent_duty (by simp only [onStep_cfg]; exact hw), uval_onEvent_duty (by simp only [onStep_cfg]; exact hw)]
    simp only [onStep_cfg, hasEvent, onStep_evt, Event.num, onEvent_stepPeriod_duty]
  case dead =>
    rw [uval_onEvent_dead (by simp only [onStep_cfg]; exact hw), uval_onEvent_dead (by simp only [onStep_cfg]; exact hw)]
    simp only [onStep_cfg, hasEvent, onStep_evt, Event.num, onEvent_stepPeriod_dead, onEvent_stepDuty_dead]

/-- Settles O38: the step events run on the state after the toggle. -/
theorem fsmAppliesTheStepEvents : Obligations.FsmAppliesTheStepEvents := by
  unfold Obligations.FsmAppliesTheStepEvents
  refine ⟨fun s hinit => ⟨_, exec_fsm_of_init hinit, rfl⟩, fun s hinv hinit => ?_⟩
  obtain ⟨htoggles, hnot⟩ := afterToggle_geo s
  have hw : (afterToggle s).cfg.WellFormed := by rw [afterToggle_cfg]; exact hinv.1
  obtain ⟨hperiod, hduty, hdead⟩ := uval_applySteps hw
  simp only [afterToggle_cfg, afterToggle_evt, stepIf, ← sub_eq_add_neg] at hperiod hduty hdead
  refine ⟨_, (afterToggle s).geo, _, _, _, exec_fsm_of_ne hinit, ?_, ?_, ?_, fun h => fsmSteps_geo_eq (.inl h),
    rfl, rfl, rfl, fun h => ?_⟩ <;> simp only [fsmSteps_mode_afterToggle, fsmSteps_geo] at *
  · exact htoggles
  · exact hnot
  · simp
  · rw [stepEvents, if_pos h]
    exact ⟨hperiod, hduty, hdead⟩

/-! ### The soft-start ramp (R218) -/

theorem setpoint_of_closeLoop {s : State} (h : s.mode = .closeLoop) : setpoint s = s.ctl.buckDuty := if_pos h

theorem setpoint_of_openLoop {s : State} (h : s.mode = .openLoop) : setpoint s = s.geo.duty :=
  if_neg (by rw [h]; decide)

/-- Settles O39: the ramp step runs on the state after the events, which meets the invariants it needs. -/
theorem fsmRampsTheDuty : Obligations.FsmRampsTheDuty := by
  unfold Obligations.FsmRampsTheDuty
  intro s hinv hs hf
  have hinit : s.state ≠ .init := by simp [hs]
  have hmid := midTickInv_stepEvents (midTickInv_afterToggle hinv hinit)
  have hrise : (stepEvents (afterToggle s)).state = .rise := by simp [transition_of_rise hs hf, hs]
  have hcfg : (stepEvents (afterToggle s)).cfg = s.cfg := by simp
  have hramp : (stepEvents (afterToggle s)).ramp = s.ramp := by simp [transition_of_rise hs hf]
  have hcnt : (stepEvents (afterToggle s)).riseCnt = s.riseCnt := by simp [transition_of_rise hs hf]
  have hexec := exec_fsm_of_ne hinit
  rw [fsmSteps_of_rise hs hf] at hexec
  rw [hexec, ← hcfg, ← hramp, ← hcnt]
  generalize stepEvents (afterToggle s) = x at hmid hrise
  obtain ⟨hiff, hor⟩ := rampStep_state_iff hrise
  exact ⟨_, uval (setpoint x), rfl, fun hm => congrArg uval (setpoint_of_closeLoop (s := x) hm),
    fun hm => congrArg uval (setpoint_of_openLoop (s := x) hm), uval_nextRamp hmid, uval_nextRiseCnt hmid,
    (midTickInv_rampStep hmid hrise).count, hiff, hor⟩

end Sys2Proof.Machine
end

section
/-! SUPPORT. The statement of 44_state_machine.md R220: an event without effect is dropped. Every step of `FSM` gives the
same with another `EVT` that has the bits the step looks at. -/

namespace Sys2Proof.Machine

/-- The same state with another `EVT`. -/
def withEvt (v : BitVec 9) (s : State) : State := { s with evt := v }

/-- An event counts in this `FSM`: `START` and `ACK` in their state, `MODE` where it toggles, the step events in `OpenLoop`
(44_state_machine.md R204, R207, R209, R211). -/
def Counts (s : State) (e : Event) : Prop :=
  match e with
  | .start => s.state = .wait ∧ latchedFault s = 0
  | .ack => s.state = .err
  | .mode => Active s.state ∧ latchedFault s = 0
  | .freqUp | .freqDn | .dutyUp | .dutyDn | .deadUp | .deadDn => (fsmSteps s).mode = .openLoop

theorem transition_withEvt {v : BitVec 9} {s : State}
    (hstart : Counts s .start → v.getLsbD 0 = s.evt.getLsbD 0) (hack : Counts s .ack → v.getLsbD 1 = s.evt.getLsbD 1) :
    transition (latchFault (withEvt v s)) = withEvt v (transition (latchFault s)) := by
  by_cases htrip : Active s.state ∧ latchedFault s ≠ 0
  · rw [transition_of_trip htrip.1 htrip.2, transition_of_trip (s := withEvt v s) htrip.1 htrip.2]
    rfl
  have hf (ha : Active s.state) : latchedFault s = 0 := by_contra fun hne => htrip ⟨ha, hne⟩
  cases hs : s.state with
  | init =>
    have hnot : trips (latchFault s) = false := trips_false_of_state (by simp [hs])
    have hnot' : trips (latchFault (withEvt v s)) = false := hnot
    have hs' : (withEvt v s).state = .init := hs
    simp only [transition, hnot, hnot', latchFault_state, hs, hs']
    rfl
  | wait =>
    have h0 := hf (.inl hs)
    cases he : s.evt.getLsbD 0 with
    | true =>
      rw [transition_of_start hs h0 he, transition_of_start (s := withEvt v s) hs h0 ((hstart ⟨hs, h0⟩).trans he)]
      rfl
    | false =>
      rw [transition_of_no_start hs h0 he, transition_of_no_start (s := withEvt v s) hs h0 ((hstart ⟨hs, h0⟩).trans he)]
      rfl
  | rise =>
    have h0 := hf (.inr (.inl hs))
    rw [transition_of_rise hs h0, transition_of_rise (s := withEvt v s) hs h0]
    rfl
  | run =>
    have h0 := hf (.inr (.inr hs))
    rw [transition_of_run hs h0, transition_of_run (s := withEvt v s) hs h0]
    rfl
  | err =>
    cases he : s.evt.getLsbD 1 with
    | true =>
      rw [transition_of_ack hs he, transition_of_ack (s := withEvt v s) hs ((hack hs).trans he)]
      rfl
    | false =>
      rw [transition_of_no_ack hs he, transition_of_no_ack (s := withEvt v s) hs ((hack hs).trans he)]
      rfl

theorem toggleMode_withEvt (v : BitVec 9) (s : State) : toggleMode (withEvt v s) = withEvt v (toggleMode s) := by
  unfold toggleMode withEvt
  split <;> rfl

theorem afterToggle_withEvt {v : BitVec 9} {s : State}
    (htrans : transition (latchFault (withEvt v s)) = withEvt v (transition (latchFault s)))
    (hmode : Counts s .mode → v.getLsbD 2 = s.evt.getLsbD 2) :
    afterToggle (withEvt v s) = withEvt v (afterToggle s) := by
  have hiff : Toggles (withEvt v s) ↔ Toggles s := and_congr_left fun h => by
    rw [← hmode h]; rfl
  by_cases ht : Toggles s
  · rw [afterToggle_of_toggles ht, afterToggle_of_toggles (hiff.2 ht), htrans, toggleMode_withEvt]
  · rw [afterToggle_of_not_toggles ht, afterToggle_of_not_toggles (mt hiff.1 ht), htrans]

theorem onEvent_withEvt {f : State → State} {v : BitVec 9} (hf : ∀ s, f (withEvt v s) = withEvt v (f s)) {e : Event}
    {s : State} (he : v.getLsbD e.num = s.evt.getLsbD e.num) :
    onEvent e f (withEvt v s) = withEvt v (onEvent e f s) := by
  have heq : hasEvent (withEvt v s) e = hasEvent s e := he
  unfold onEvent
  rw [heq]
  split
  · exact hf s
  · rfl

theorem stepEvents_withEvt {v : BitVec 9} {s : State}
    (hbits : s.mode = .openLoop → ∀ e ∈ [Event.freqUp, .freqDn, .dutyUp, .dutyDn, .deadUp, .deadDn],
      v.getLsbD e.num = s.evt.getLsbD e.num) : stepEvents (withEvt v s) = withEvt v (stepEvents s) := by
  by_cases hm : s.mode = .openLoop
  · have hbits := hbits hm
    rw [stepEvents, stepEvents, if_pos hm, if_pos (show (withEvt v s).mode = .openLoop from hm), applySteps, applySteps]
    rw [onEvent_withEvt (f := stepPeriod _) (fun _ => rfl), onEvent_withEvt (f := stepPeriod _) (fun _ => rfl),
      onEvent_withEvt (f := stepDuty _) (fun _ => rfl), onEvent_withEvt (f := stepDuty _) (fun _ => rfl),
      onEvent_withEvt (f := stepDead _) (fun _ => rfl), onEvent_withEvt (f := stepDead _) (fun _ => rfl)]
    · rfl
    all_goals simpa only [onStep_evt] using hbits _ (by simp)
  · rw [stepEvents, stepEvents, if_neg hm, if_neg (show ¬ (withEvt v s).mode = .openLoop from hm)]

theorem selectDuty_rampIf_withEvt (entry : ConvState) (trip : Bool) (v : BitVec 9) (s : State) :
    selectDuty (rampIf entry trip (withEvt v s)) = withEvt v (selectDuty (rampIf entry trip s)) := by
  unfold rampIf
  split <;> rfl

/-- `FSM` outside `Init` looks at no event but those that count. -/
theorem fsmSteps_withEvt {v : BitVec 9} {s : State} (h : ∀ e, Counts s e → v.getLsbD e.num = s.evt.getLsbD e.num) :
    fsmSteps (withEvt v s) = withEvt v (fsmSteps s) := by
  have htoggle := afterToggle_withEvt (transition_withEvt (h .start) (h .ack)) (h .mode)
  have hstep : stepEvents (withEvt v (afterToggle s)) = withEvt v (stepEvents (afterToggle s)) :=
    stepEvents_withEvt fun hm e he => by
      rw [← fsmSteps_mode_afterToggle] at hm
      rw [afterToggle_evt]
      refine h e ?_
      simp only [List.mem_cons, List.not_mem_nil, or_false] at he
      rcases he with rfl | rfl | rfl | rfl | rfl | rfl <;> exact hm
  rw [fsmSteps_eq, htoggle, hstep, selectDuty_rampIf_withEvt]
  rfl

/-- The bits outside a mask are kept when the mask is cleared. -/
theorem getLsbD_and_not {v bits : BitVec 9} {i : Nat} (h : bits.getLsbD i = false) :
    (v &&& ~~~bits).getLsbD i = v.getLsbD i := by
  rw [BitVec.getLsbD_and, BitVec.getLsbD_not, h]
  by_cases hi : i < 9
  · simp [hi]
  · simp [BitVec.getLsbD_of_ge v i (by omega)]

/-- The bits that R220 names, each with the case in which it has no effect, are none that count. -/
theorem dropped_bits_do_not_count {s : State} {bits : BitVec 9}
    (h : (bits = 0x001#9 ∧ (s.state ≠ .wait ∨ latchedFault s ≠ 0)) ∨ (bits = 0x002#9 ∧ s.state ≠ .err) ∨
      (bits = 0x004#9 ∧ (s.state = .err ∨ latchedFault s ≠ 0)) ∨ (bits = 0x1F8#9 ∧ (fsmSteps s).mode = .closeLoop))
    (e : Event) (he : Counts s e) : bits.getLsbD e.num = false := by
  rcases h with ⟨rfl, hno⟩ | ⟨rfl, hno⟩ | ⟨rfl, hno⟩ | ⟨rfl, hno⟩
  · have hbit : e ≠ .start → (0x001#9).getLsbD e.num = false := by cases e <;> decide
    refine hbit ?_
    rintro rfl
    exact hno.elim (fun hs => hs he.1) (fun hf => hf he.2)
  · have hbit : e ≠ .ack → (0x002#9).getLsbD e.num = false := by cases e <;> decide
    refine hbit ?_
    rintro rfl
    exact hno he
  · have hbit : e ≠ .mode → (0x004#9).getLsbD e.num = false := by cases e <;> decide
    refine hbit ?_
    rintro rfl
    exact hno.elim he.1.ne_err (fun hf => hf he.2)
  · cases e with
    | start | ack | mode => rfl
    | freqUp | freqDn | dutyUp | dutyDn | deadUp | deadDn =>
      have hopen : (fsmSteps s).mode = .openLoop := he
      rw [hno] at hopen
      cases hopen

/-- Settles O42: the dropped bits are none that count. -/
theorem ineffectiveEventsAreDropped : Obligations.IneffectiveEventsAreDropped := by
  unfold Obligations.IneffectiveEventsAreDropped
  refine ⟨fun s t u bits hbits ht hu => ?_, fun s evt => rfl⟩
  change exec .fsm (withEvt (s.evt &&& ~~~bits) s) = .next u at hu
  by_cases hinit : s.state = .init
  · rw [exec_fsm_of_init hinit] at ht
    rw [exec_fsm_of_init (s := withEvt (s.evt &&& ~~~bits) s) hinit] at hu
    rw [← next_inj ht, ← next_inj hu]
    rfl
  · rw [exec_fsm_of_ne hinit] at ht
    rw [exec_fsm_of_ne (s := withEvt (s.evt &&& ~~~bits) s) hinit] at hu
    rw [← next_inj ht] at hbits ⊢
    have hcounts := dropped_bits_do_not_count (s := s) (bits := bits) (by simpa only [hinit, or_false] using hbits)
    rw [← next_inj hu, fsmSteps_withEvt fun e he => getLsbD_and_not (hcounts e he)]
    rfl

end Sys2Proof.Machine
end

section
/-! SUPPORT. The statements of 44_state_machine.md about the steps of a run: what leaves `Err`, what enables the output,
and the trip of a short circuit in its own tick. -/

namespace Sys2Proof.Machine

/-! ### What writes `STATE` and `OUT_EN` (R204, R207) -/

/-- A step that changes `STATE` or `OUT_EN` is an `FSM` or a `RESET`. -/
theorem step_state_outEn_cases {s t : State} (h : step s = .next t) :
    (s.stg = 5 ∧ exec .fsm s = .next t) ∨
    (s.stg = 0 ∧ (takeInput s).1 = .reset ∧ t.state = .init ∧ t.outEn = false) ∨
    (t.state = s.state ∧ t.outEn = s.outEn) := by
  obtain ⟨-, ⟨-, rfl⟩ | ⟨-, rfl⟩ | ⟨-, rfl⟩ | ⟨-, rfl⟩ | ⟨hstg, rfl⟩ | ⟨-, rfl⟩ | ⟨hstg, hrst, rfl⟩ |
    ⟨-, codes, -, rfl⟩ | ⟨-, hframe, -⟩⟩ := step_inversion h
  · exact .inr (.inr ⟨rfl, rfl⟩)
  · exact .inr (.inr ⟨sampleStage_state s, sampleStage_outEn s⟩)
  · exact .inr (.inr ⟨ctrlStage_state s, ctrlStage_outEn s⟩)
  · exact .inr (.inr ⟨protStage_state s, protStage_outEn s⟩)
  · exact .inl ⟨hstg, exec_eq_effect _ s⟩
  · exact .inr (.inr ⟨mapStage_state s, mapStage_outEn s⟩)
  · exact .inr (.inl ⟨hstg, hrst, rfl, rfl⟩)
  · rw [takeInput_frame s]
    exact .inr (.inr ⟨rfl, rfl⟩)
  · rw [hframe]
    exact .inr (.inr ⟨rfl, rfl⟩)

/-- Settles O47, by the rows of the transition table that start in `Err`. -/
theorem onlyAckOrResetLeavesErr : Obligations.OnlyAckOrResetLeavesErr := by
  unfold Obligations.OnlyAckOrResetLeavesErr
  intro s t hstep hs hne
  rcases step_state_outEn_cases hstep with ⟨hstg, hexec⟩ | ⟨hstg, hrst, hinit, -⟩ | ⟨hstate, -⟩
  · obtain ⟨t', hexec', -, -, -, -, -, -, -, hack, herr⟩ := fsmFollowsTheTransitionTable s
    obtain rfl := next_inj (hexec'.symm.trans hexec)
    cases he : s.evt.getLsbD 1 with
    | true => exact .inl ⟨hstg, rfl, hack ⟨hs, he⟩⟩
    | false => exact absurd (herr ⟨hs, he⟩).1 hne
  · exact .inr ⟨hstg, hrst, hinit⟩
  · exact absurd (hstate.trans hs) hne

/-- Settles O48: every other row of the transition table keeps `OUT_EN` or clears it. -/
theorem onlyStartEnablesTheOutput : Obligations.OnlyStartEnablesTheOutput := by
  unfold Obligations.OnlyStartEnablesTheOutput
  intro s t hstep hoff hon
  rcases step_state_outEn_cases hstep with ⟨hstg, hexec⟩ | ⟨-, -, -, hout⟩ | ⟨-, hout⟩
  · obtain ⟨t', hexec', hinit, -, htrip, hstart, hwait, hrise, hrun, hack, herr⟩ := fsmFollowsTheTransitionTable s
    obtain rfl := next_inj (hexec'.symm.trans hexec)
    have hne {b : Bool} (h : t'.outEn = b) (hb : b = false) : False := by rw [hon, hb] at h; cases h
    have hfault (ha : Active s.state) : latchedFault s = 0 := by_contra fun hf => hne (htrip ⟨ha, hf⟩).2 rfl
    cases hs : s.state with
    | init => exact (hne (hinit hs).2.1 rfl).elim
    | rise => exact (hne (hrise ⟨hs, hfault (.inr (.inl hs))⟩).2.1 hoff).elim
    | run => exact (hne (hrun ⟨hs, hfault (.inr (.inr hs))⟩).2 hoff).elim
    | err =>
      cases he : s.evt.getLsbD 1 with
      | true => exact (hne (hack ⟨hs, he⟩).2.2 hoff).elim
      | false => exact (hne (herr ⟨hs, he⟩).2 hoff).elim
    | wait =>
      have hf := hfault (.inl hs)
      cases he : s.evt.getLsbD 0 with
      | false => exact (hne (hwait ⟨hs, hf, he⟩).2 hoff).elim
      | true =>
        obtain ⟨hstate, -, hramp, -⟩ := hstart ⟨hs, hf, he⟩
        obtain ⟨t'', hexec'', hduty, -⟩ := fsmSelectsTheActiveDuty s (by simp [hs])
        obtain rfl := next_inj (hexec''.symm.trans hexec)
        exact ⟨hstg, rfl, rfl, hf, hstate, (hduty hstate).trans hramp⟩
  · rw [hout] at hon; cases hon
  · rw [hout, hoff] at hon; cases hon

/-! ### A whole tick (R201; seven steps: log 3) -/

theorem stepN_succ {s t : State} (h : step s = .next t) (k : Nat) : stepN (k + 1) s = stepN k t := by
  rw [stepN, h]

theorem step_of_stage {s : State} {i : Instr} (hw : s.cfg.WellFormed) (h : decodeStage s.stg = .ok i) :
    step s = .next (effect i s) := by
  rw [step, fetch_stage hw h]
  exact exec_eq_effect i s

/-- A `tick` strobe that arrives alone starts a tick (20_memory.md R86). -/
theorem step_of_tick {s : State} {codes : AdcCodes} {rest : List Arrival} (hw : s.cfg.WellFormed) (hstg : s.stg = 0)
    (hbox : s.inbox = { tick := some codes } :: rest) :
    step s = .next (tickEvent codes { s with inbox := rest }) := by
  have htake : takeInput s = (.tick codes, { s with inbox := rest }) := by simp [takeInput, hbox]
  rw [step, fetch_idle hw hstg, htake]
  rfl

/-- A tick up to its `PROT`: the strobe, then `LATCH`, `SAMPLE`, `CTRL` and `PROT` (R201). -/
def tickToProt (codes : AdcCodes) (s : State) : State :=
  protStage (ctrlStage (sampleStage (latchStage (tickEvent codes s))))

/-- A tick is the strobe and the six stages in order. -/
theorem stepN_tick {s : State} {codes : AdcCodes} {rest : List Arrival} (hw : s.cfg.WellFormed) (hstg : s.stg = 0)
    (hbox : s.inbox = { tick := some codes } :: rest) :
    stepN 7 s = .next (mapStage (fsmStage (tickToProt codes { s with inbox := rest }))) := by
  have hcfg : (tickEvent codes { s with inbox := rest }).cfg.WellFormed := hw
  unfold tickToProt
  generalize hu : tickEvent codes { s with inbox := rest } = u at hcfg
  have hstep (x : State) (hx : x.cfg = u.cfg) {i : Instr} (hi : decodeStage x.stg = .ok i) :
      step x = .next (effect i x) := step_of_stage (by rw [hx]; exact hcfg) hi
  rw [stepN_succ (step_of_tick hw hstg hbox), hu, stepN_succ (hstep u rfl (i := .latch) (by rw [← hu]; rfl)),
    stepN_succ (hstep _ (by simp [effect]) (i := .sample) rfl), stepN_succ (hstep _ (by simp [effect]) (i := .ctrl) rfl),
    stepN_succ (hstep _ (by simp [effect]) (i := .prot) rfl), stepN_succ (hstep _ (by simp [effect]) (i := .fsm) rfl),
    stepN_succ (hstep _ (by simp [effect]) (i := .map) rfl)]
  rfl

/-- The value of a current channel after the sample of a captured code (40_sampler.md R131, R133). -/
theorem sval_sampleCurrent_captureCode {cal : Cal} (hc : cal.WellFormed) (code : BitVec 12) (ch : Channel) :
    sval (sampleCurrent cal (captureCode code ch)).val = max 2048 ((code.toNat : Int) * cal.k / 4096 + cal.b) := by
  have hcode : uval (code.zeroExtend 32) = code.toNat := uval_zeroExtend code (by decide)
  have hraw : uval (code.zeroExtend 32) ≤ 4095 := by rw [hcode]; have := code.isLt; omega
  obtain ⟨hbelow, habove⟩ := floorCurrent_spec (calibrate cal (code.zeroExtend 32))
  have hcal : calibrate cal (code.zeroExtend 32) = (code.toNat : Int) * cal.k / 4096 + cal.b := by
    rw [calibrate, Config.kShift, asr_twelve, hcode]
  have hval : sval (sampleCurrent cal (captureCode code ch)).val = floorCurrent (calibrate cal (code.zeroExtend 32)) :=
    sval_updateChannel_val (current_mem hc hraw)
  rw [hval, ← hcal]
  omega

theorem protStage_flagsNow_of_tickInit_false {s : State} (h : s.tickInit = false) :
    (protStage s).flagsNow = protFlags s := by
  simp [protStage, h]

/-- `SHORT` looks at the value sampled in the same tick, unless the tick starts in `Init` (43_protection.md R192). -/
theorem short_flag_of_tick {s : State} {codes : AdcCodes} (hw : s.cfg.WellFormed) (hs : s.state ≠ .init)
    (hshort : max 2048 ((codes.iout.toNat : Int) * s.cfg.calIout.k / 4096 + s.cfg.calIout.b) > s.cfg.shortTh) :
    (tickToProt codes s).flagsNow.getLsbD 5 = true := by
  obtain ⟨-, -, -, hcal⟩ := cals_wellFormed hw
  have hinit : (latchStage (tickEvent codes s)).tickInit = false := decide_eq_false hs
  obtain ⟨-, -, -, -, -, hflag⟩ := getLsbD_protFlags (ctrlStage (sampleStage (latchStage (tickEvent codes s))))
  rw [tickToProt, protStage_flagsNow_of_tickInit_false (by simp [hs]), hflag, ctrlStage_iout, ctrlStage_cfg,
    sampleStage_of_tickInit_false hinit]
  exact hshort.trans_eq (sval_sampleCurrent_captureCode hcal codes.iout s.iout).symm

/-- Settles O46: `PROT` raises the flag, `FSM` latches it and trips, and `MAP` keeps what the trip wrote. -/
theorem shortCircuitTripsInTheSameTick : Obligations.ShortCircuitTripsInTheSameTick := by
  unfold Obligations.ShortCircuitTripsInTheSameTick
  intro s codes rest hinv hstg hbox hactive hshort
  obtain ⟨hw, -⟩ := hinv
  have hflag := short_flag_of_tick (s := { s with inbox := rest }) (codes := codes) hw hactive.ne_init hshort
  have hrun := stepN_tick hw hstg hbox
  have hstate : (tickToProt codes { s with inbox := rest }).state = s.state := by simp [tickToProt]
  have hcfg : (tickToProt codes { s with inbox := rest }).cfg = s.cfg := by simp [tickToProt]
  generalize tickToProt codes { s with inbox := rest } = p at hflag hrun hstate hcfg
  have hlatched : (latchedFault p).getLsbD 5 = true := by rw [latchedFault, BitVec.getLsbD_or, hflag, Bool.or_true]
  have hne : latchedFault p ≠ 0 := by rintro h; rw [h] at hlatched; cases hlatched
  obtain ⟨t, hexec, herr, hout, hbuck, hduty, hfault, -⟩ := fsmTripsOnALatchedFault p (hcfg ▸ hw) (hstate ▸ hactive) hne
  obtain rfl := next_inj ((exec_eq_effect .fsm p).symm.trans hexec)
  rw [hcfg] at hbuck hduty
  refine ⟨_, hrun, rfl, ?_⟩
  rw [mapStage_state, mapStage_outEn, mapStage_fault, mapStage_dutyAct, mapStage_ctl]
  exact ⟨herr, hout, hfault ▸ hlatched, hduty, hbuck⟩

end Sys2Proof.Machine
end

section
/-! SUPPORT. The statements of 45_host_commands.md: the posts, `RD` over the register map, and the reserved words. -/

namespace Sys2Proof.Machine

/-! ### Reserved words (R254) -/

/-- A host word that arrives alone and names no operation is taken as a reserved word (20_memory.md R86). -/
theorem step_of_reservedWord {s : State} {w : BitVec 16} {r : Reject} {rest : List Arrival} (hw : s.cfg.WellFormed)
    (hstg : s.stg = 0) (hbox : s.inbox = { cmd := some w } :: rest) (hdec : decodeHost w = .error r) :
    step s = .next (reservedWord { s with inbox := rest }) := by
  have htake : takeInput s = (.word w, { s with inbox := rest }) := by simp [takeInput, hbox]
  simp only [step, fetch_idle hw hstg, htake, startInput, hdec]

/-- Settles O7: the four conditions make the decoder reject the word, and the step of a rejected word is known. -/
theorem reservedWordOnlySetsCmdErr : Obligations.ReservedWordOnlySetsCmdErr := by
  unfold Obligations.ReservedWordOnlySetsCmdErr
  intro s w rest hw hstg hbox hres
  obtain ⟨r, hr⟩ := decodeFields_reserved hres
  exact step_of_reservedWord hw hstg hbox ((decodeHost_eq w).trans hr)

/-! ### The register map (R251) -/

/-- No index stands in two rows of the map, so each row is the one its index finds. -/
theorem regAt_of_mem_registerMap : ∀ q ∈ registerMap, regAt q.1 = some q.2 := by decide

/-- The indices of the map are five runs (10_state.md R48). -/
theorem registerMap_indices : registerMap.map Prod.fst =
    List.range' 0 0x12 ++ List.range' 0x20 0x0B ++ List.range' 0x30 8 ++ List.range' 0x40 4 ++ List.range' 0x48 7 := rfl

theorem regAt_eq_none_iff_not_mem (idx : Nat) : regAt idx = none ↔ idx ∉ registerMap.map Prod.fst := by
  simp only [regAt, List.lookup_eq_none_iff, bne_iff_ne, List.mem_map, not_exists, not_and, ne_eq,
    eq_comm (a := idx)]

/-- An index is unimplemented exactly outside the five runs (20_memory.md R85). -/
theorem regAt_eq_none_iff (idx : Nat) : regAt idx = none ↔
    ¬ (idx ≤ 0x11 ∨ (0x20 ≤ idx ∧ idx ≤ 0x2A) ∨ (0x30 ≤ idx ∧ idx ≤ 0x37) ∨ (0x40 ≤ idx ∧ idx ≤ 0x43) ∨
      (0x48 ≤ idx ∧ idx ≤ 0x4E)) := by
  rw [regAt_eq_none_iff_not_mem, registerMap_indices]
  simp only [List.mem_append, List.mem_range'_1]
  omega

/-- Settles O19: the rows of the statement are those of the register map, each with what its register reads. -/
theorem rdReturnsTheMappedRegister : Obligations.RdReturnsTheMappedRegister := by
  unfold Obligations.RdReturnsTheMappedRegister
  intro s idx _
  refine ⟨effect (.rd idx) s, exec_eq_effect _ s, fun hout => ?_, fun hin => ?_, fun p hp hidx => ?_⟩
  · exact effect_rd_of_regAt_none ((regAt_eq_none_iff idx).mpr hout) s
  · obtain ⟨r, hr⟩ := Option.ne_none_iff_exists'.mp fun hnone => (regAt_eq_none_iff idx).mp hnone hin
    rw [effect_rd_of_regAt hr]
  · have hrow : p ∈ registerMap.map fun q => (q.1, q.2.read s) := hp
    obtain ⟨q, hq, rfl⟩ := List.mem_map.mp hrow
    rw [hidx, effect_rd_of_regAt (regAt_of_mem_registerMap q hq)]

/-! ### The posts (R240 to R250) -/

theorem exec_post (e : Event) (s : State) : exec (.post e) s = .next (postEvent e s) := by
  rw [exec_eq_effect, effect_post]

/-- The bit of an event stands at its number and nowhere else (10_state.md R41). -/
theorem getLsbD_eventBit (e : Event) (j : Nat) : (eventBit e).getLsbD j = decide (j = e.num) := by
  have hbit : eventBit e = BitVec.twoPow 9 e.num := rfl
  simp [hbit, e.num_lt, eq_comm]

theorem getLsbD_postEvent_pend (e : Event) (s : State) (j : Nat) :
    (postEvent e s).pend.getLsbD j = (s.pend.getLsbD j || decide (j = e.num)) := by
  rw [postEvent_pend, BitVec.getLsbD_or, getLsbD_eventBit]

/-- Posts of one kind coalesce (R241). -/
theorem postEvent_idem (e : Event) (s : State) : postEvent e (postEvent e s) = postEvent e s := by
  simp only [postEvent, BitVec.or_assoc, BitVec.or_self]

/-- The mailbox does not keep the order of two posts (R241). -/
theorem postEvent_comm (e f : Event) (s : State) : postEvent e (postEvent f s) = postEvent f (postEvent e s) := by
  simp only [postEvent, BitVec.or_assoc, BitVec.or_comm (eventBit e)]

/-- Settles O17: the nine pairs of the statement are the post of an event and the number of that event. -/
theorem eventPostsSetTheirBit : Obligations.EventPostsSetTheirBit := by
  unfold Obligations.EventPostsSetTheirBit
  intro s
  refine ⟨exec_eq_effect .nop s, fun p hp => ?_⟩
  have hpost : p ∈ [Event.start, .ack, .mode, .freqUp, .freqDn, .dutyUp, .dutyDn, .deadUp, .deadDn].map
      fun e => (Instr.post e, e.num) := hp
  obtain ⟨e, -, rfl⟩ := List.mem_map.mp hpost
  exact ⟨postEvent e s, exec_post e s, rfl, getLsbD_postEvent_pend e s⟩

/-- Settles O18: a post ors one bit into `PEND`, and that is idempotent and commutes. -/
theorem postsCoalesceAndForgetOrder : Obligations.PostsCoalesceAndForgetOrder := by
  unfold Obligations.PostsCoalesceAndForgetOrder
  intro e f s
  have hagain : exec (.post e) (postEvent e s) = .next (postEvent e s) := by rw [exec_post, postEvent_idem]
  have hswap : exec (.post e) (postEvent f s) = .next (postEvent f (postEvent e s)) := by rw [exec_post, postEvent_comm]
  exact ⟨postEvent e s, postEvent f (postEvent e s), postEvent f s, rfl, Nat.le_of_lt_succ e.num_lt, exec_post e s, hagain,
    exec_post f _, exec_post f s, hswap⟩

end Sys2Proof.Machine
end

section
/-! SUPPORT. The statement of 70_reset_and_hazards.md R291: the values `InitLoad` writes are the reset values. -/

namespace Sys2Proof.Machine

/-- A seeded channel takes the reset values in all of it but `RAW_c`. -/
theorem seedChannel_values {c : Cfg} (hw : c.WellFormed) {v : Int} (ch : Channel) (h0 : -2147483648 ≤ v)
    (h1 : v < 2147483648) :
    sval (seedChannel c v ch).val = v ∧ uval (seedChannel c v ch).sum = 4 * c.avgSeed ∧
    uval (seedChannel c v ch).avg = c.avgSeed := by
  obtain ⟨⟨-, -, -, -, hseed⟩, -⟩ := (Cfg.wellFormed_iff c).1 hw
  obtain ⟨-, hval, hsum, havg⟩ := channelReset_values (c := c) hseed h0 h1
  exact ⟨hval, hsum.trans (Int.mul_comm _ _), havg⟩

/-- Settles O16: outside the channels the load writes the fields of the reset state, and those have the values of the
table of reset values. -/
theorem fsmInInitLoadsParameters : Obligations.FsmInInitLoadsParameters := by
  unfold Obligations.FsmInInitLoadsParameters
  refine ⟨fun c => exec_fsm_of_init rfl, fun s hw hinit => ?_⟩
  have hvoltage (ch : Channel) := seedChannel_values hw (v := 0) ch (by decide) (by decide)
  have hcurrent (ch : Channel) := seedChannel_values hw (v := 2048) ch (by decide) (by decide)
  obtain ⟨hvin, hvinMean⟩ := hvoltage s.vin
  obtain ⟨hiin, hiinMean⟩ := hcurrent s.iin
  obtain ⟨hvout, hvoutMean⟩ := hvoltage s.vout
  obtain ⟨hiout, hioutMean⟩ := hcurrent s.iout
  obtain ⟨-, ⟨-, -, -, hduty, hboost, hvo, hio, hlim, hlimOut, hbuckMax, hboostMax⟩, -, hper, hhalf, hgduty, hdead, -⟩ :=
    resetWith_values hw
  refine ⟨_, exec_fsm_of_init hinit, rfl, rfl, rfl, rfl, rfl, rfl, hvin, hiin, hvout, hiout, ?_, rfl, rfl, rfl, hduty, hvo,
    hbuckMax, hboost, hio, hlim, hlimOut, hboostMax, hper, hhalf, hgduty, hdead, hduty, rfl, hduty, rfl⟩
  simp only [List.forall_mem_cons]
  exact ⟨hvinMean, hiinMean, hvoutMean, hioutMean, List.forall_mem_nil _⟩

end Sys2Proof.Machine
end

section
/-! SUPPORT. The statement of 70_reset_and_hazards.md R295: with a sound geometry every duty that reaches the mapper is
below the half-period, every requested dead-time fits the scaled half-period, and so no tuple is rejected. -/

namespace Sys2Proof.Machine

/-! ### The duties are below the half-period (R295 (a) to (c)) -/

/-- The loaded upper limit of the duty command is below the half-period. -/
theorem buckMaxDuty_lt_defHalf {c : Cfg} (hw : c.WellFormed) (hg : SoundGeometry c) :
    uval (Params.reset c).buckMaxDuty < c.defHalf := by
  obtain ⟨-, ⟨-, -, -, -, -, -, -, -, -, hread, -⟩, -⟩ := resetWith_values hw
  obtain ⟨hmax, -⟩ := hg
  exact hread.trans_lt hmax

/-- So is the disabled duty, which the upper limit bounds. -/
theorem minBuckDuty_lt_defHalf {c : Cfg} (hw : c.WellFormed) (hg : SoundGeometry c) :
    uval (word c.minBuckDuty) < c.defHalf := by
  obtain ⟨-, -, hread⟩ := minBuckDuty_mem hw
  obtain ⟨hle, -⟩ := buckMaxDuty_mem hw
  exact hread.trans_lt (hle.trans_lt (buckMaxDuty_lt_defHalf hw hg))

/-- The setpoint is the law's duty, which its upper limit bounds, or the manual duty, which is the default one or at most
`DUTY_MAX`. -/
theorem setpoint_lt_defHalf {s : State} (h : MidTickInv s) (hg : SoundGeometry s.cfg) :
    uval (setpoint s) < s.cfg.defHalf := by
  have hlim := buckMaxDuty_lt_defHalf h.wf hg
  obtain ⟨-, -, hdef, hmax, -⟩ := hg
  obtain ⟨hparams, -, -, ⟨-, hduty⟩, -⟩ := h.control
  obtain ⟨-, -, hgeo, -⟩ := h.geometry
  rw [hparams] at hduty
  cases hm : s.mode with
  | closeLoop =>
    rw [setpoint_of_closeLoop hm]
    exact hduty.trans_lt hlim
  | openLoop =>
    rw [setpoint_of_openLoop hm]
    rcases hgeo with heq | ⟨-, hle⟩
    · exact heq.trans_lt hdef
    · exact hle.trans_lt hmax

/-- Every duty `FSM` can choose is the ramp, the setpoint or the disabled duty (44_state_machine.md R219). -/
theorem activeDuty_lt_defHalf {s : State} (h : MidTickInv s) (hg : SoundGeometry s.cfg) (hne : s.state ≠ .init)
    (hramp : uval s.ramp < s.cfg.defHalf) : uval (activeDuty s) < s.cfg.defHalf := by
  have hmin := minBuckDuty_lt_defHalf h.wf hg
  have hset := setpoint_lt_defHalf h hg
  cases hs : s.state with
  | init => exact absurd hs hne
  | wait => simpa only [activeDuty, hs] using hmin
  | rise => simpa only [activeDuty, hs] using hramp
  | run => simpa only [activeDuty, hs] using hset
  | err => simpa only [activeDuty, hs] using hmin

/-! ### The ramp is below the half-period -/

/-- Of the transitions only the start writes the ramp: it takes the disabled duty (44_state_machine.md R204). -/
theorem transition_ramp_lt_defHalf {s : State} (hw : s.cfg.WellFormed) (hg : SoundGeometry s.cfg)
    (hramp : uval s.ramp < s.cfg.defHalf) : uval (transition s).ramp < s.cfg.defHalf := by
  rcases transition_cases s with ⟨-, heq⟩ | ⟨-, -, -, heq⟩ | ⟨-, -, -, heq⟩ | ⟨-, -, -, heq⟩ <;> rw [heq]
  · exact hramp
  · exact minBuckDuty_lt_defHalf hw hg
  · exact hramp
  · exact hramp

/-- The ramp stops at the setpoint (44_state_machine.md R218). -/
theorem nextRamp_lt_defHalf {s : State} (h : MidTickInv s) (hg : SoundGeometry s.cfg) :
    uval (nextRamp s) < s.cfg.defHalf := by
  rw [uval_nextRamp h]
  exact (min_le_right _ _).trans_lt (setpoint_lt_defHalf h hg)

/-- Both duties that `FSM` writes outside `Init` are below the half-period. -/
theorem fsmSteps_lt_defHalf {s : State} (h : Inv s) (hg : SoundGeometry s.cfg) (hne : s.state ≠ .init)
    (hramp : uval s.ramp < s.cfg.defHalf) :
    uval (fsmSteps s).dutyAct < s.cfg.defHalf ∧ uval (fsmSteps s).ramp < s.cfg.defHalf := by
  have hmid := midTickInv_stepEvents (midTickInv_afterToggle h hne)
  have hcfg : (stepEvents (afterToggle s)).cfg = s.cfg := by simp
  have hne' : (stepEvents (afterToggle s)).state ≠ .init := by simpa using transition_ne_init hne
  have hramp' : uval (stepEvents (afterToggle s)).ramp < s.cfg.defHalf := by
    simpa using transition_ramp_lt_defHalf (s := latchFault s) h.1 hg hramp
  rw [← hcfg] at hg hramp' ⊢
  by_cases hr : s.state = .rise ∧ latchedFault s = 0
  · obtain ⟨hs, hf⟩ := hr
    have hrise : (stepEvents (afterToggle s)).state = .rise := by simp [transition_of_rise hs hf, hs]
    have hnext := nextRamp_lt_defHalf hmid hg
    have hne'' : (rampStep (stepEvents (afterToggle s))).state ≠ .init := by
      rcases (rampStep_state_iff hrise).2 with heq | heq <;> rw [heq] <;> decide
    rw [fsmSteps_of_rise hs hf]
    exact ⟨activeDuty_lt_defHalf (midTickInv_rampStep hmid hrise) hg hne'' hnext, hnext⟩
  · rw [fsmSteps_of_not_ramping hr]
    exact ⟨activeDuty_lt_defHalf hmid hg hne' hramp', hramp'⟩

/-- `FSM` leaves both duties below the half-period: after a load they are the disabled duty. -/
theorem fsmStage_lt_defHalf {s : State} (h : Inv s) (hg : SoundGeometry s.cfg) (hramp : uval s.ramp < s.cfg.defHalf) :
    uval (fsmStage s).dutyAct < s.cfg.defHalf ∧ uval (fsmStage s).ramp < s.cfg.defHalf := by
  by_cases hinit : s.state = .init
  · have hmin := minBuckDuty_lt_defHalf h.1 hg
    rw [fsmStage_of_init hinit]
    exact ⟨hmin, hmin⟩
  · rw [fsmStage_of_ne hinit]
    exact fsmSteps_lt_defHalf h hg hinit hramp

/-! ### The mapper accepts (R295 (d)) -/

/-- A longer period scales to a later edge. -/
theorem scaled_mono {x p q : Int} (hx : 0 ≤ x) (h : p ≤ q) : scaled x p ≤ scaled x q :=
  Int.ediv_le_ediv (by decide) (Int.mul_le_mul_of_nonneg_left h hx)

/-- The requested period is at least the default one or `PERIOD_MIN`, and at both of these the premise (d) makes every
dead-time fit. -/
theorem requested_geometry_sound {s : State} (hw : s.cfg.WellFormed) (hgeo : GeometryInv s) (hg : SoundGeometry s.cfg) :
    0 < uval s.geo.period ∧ uval s.geo.dead < s.cfg.defHalf ∧
    uval s.geo.dead ≤ scaled s.cfg.defHalf (uval s.geo.period) := by
  obtain ⟨-, -, -, ⟨hdefPeriod, hdefHalf, -, -, hperiodMin, -⟩, -⟩ := (Cfg.wellFormed_iff s.cfg).1 hw
  obtain ⟨-, hdefDead, -, -, hdeadMax, hmaxMin, hmaxDef, hdefMin, hdefDef⟩ := hg
  obtain ⟨-, hperiod, -, hdead⟩ := hgeo
  have hhalf0 : 0 ≤ s.cfg.defHalf := by omega
  have hscaled : scaled s.cfg.defHalf s.cfg.defPeriod ≤ scaled s.cfg.defHalf (uval s.geo.period) ∨
      scaled s.cfg.defHalf s.cfg.periodMin ≤ scaled s.cfg.defHalf (uval s.geo.period) :=
    hperiod.imp (fun h => scaled_mono hhalf0 h.ge) (fun h => scaled_mono hhalf0 h.1)
  exact ⟨by omega, by omega, by omega⟩

/-- None of the six conditions of R171 holds. -/
theorem not_mapRejects_of_sound {s : State} (h : Inv s) (hg : SoundGeometry s.cfg)
    (hduty : uval s.dutyAct < s.cfg.defHalf) : ¬ mapRejects (mapInput s) = true := by
  obtain ⟨hw, -, -, hgeo, -, ⟨⟨hduty0, -⟩, -⟩, -⟩ := h
  obtain ⟨hperiod, hdead, hscaled⟩ := requested_geometry_sound hw hgeo hg
  obtain ⟨hhalf, -⟩ := hgeo
  have hdead0 := uval_nonneg s.geo.dead
  rw [scaled_eq] at hscaled
  rw [mapRejects_iff]
  simp only [mapInput, hhalf]
  omega

/-- A `MAP` of an acceptable tuple, or of a tick that starts in `Init`, keeps `MAP_ERR` at 0. -/
theorem mapStage_mapErr_of_accepts {s : State} (hacc : ¬ mapRejects (mapInput s) = true) (herr : s.mapErr = false) :
    (mapStage s).mapErr = false := by
  cases hinit : s.tickInit with
  | true => simpa [mapStage, hinit] using herr
  | false => simp [mapStage, applyMap, hinit, hacc]

/-! ### Reset and step -/

theorem neverRejected_resetWith {c : Cfg} (hw : c.WellFormed) (hg : SoundGeometry c) :
    NeverRejected (State.resetWith c) :=
  have hmin := minBuckDuty_lt_defHalf hw hg
  ⟨inv_resetWith hw, hmin, hmin, rfl⟩

/-- Every step keeps it: `FSM` is the only stage that writes the two duties, `MAP` the only one that writes `MAP_ERR`. -/
theorem step_keeps_neverRejected {s t : State} (hg : SoundGeometry s.cfg) (h : NeverRejected s)
    (hstep : step s = .next t) : NeverRejected t := by
  obtain ⟨hinv, hkept⟩ := h
  refine ⟨everyStepKeepsTheInvariants s t hinv hstep, ?_⟩
  obtain ⟨hw, ⟨-, rfl⟩ | ⟨-, rfl⟩ | ⟨-, rfl⟩ | ⟨-, rfl⟩ | ⟨-, rfl⟩ | ⟨-, rfl⟩ | ⟨-, -, rfl⟩ |
    ⟨-, codes, -, rfl⟩ | ⟨-, hframe, -⟩⟩ := step_inversion hstep
  · exact hkept
  · simpa using hkept
  · simpa using hkept
  · simpa using hkept
  · obtain ⟨-, hramp, herr⟩ := hkept
    obtain ⟨hduty', hramp'⟩ := fsmStage_lt_defHalf hinv hg hramp
    simpa using ⟨hduty', hramp', herr⟩
  · obtain ⟨hduty, hramp, herr⟩ := hkept
    have herr' := mapStage_mapErr_of_accepts (not_mapRejects_of_sound hinv hg hduty) herr
    simpa using ⟨hduty, hramp, herr'⟩
  · obtain ⟨hcfg, -⟩ := takeInput_cfg_mode s
    obtain ⟨-, hreset⟩ := neverRejected_resetWith (hcfg ▸ hw) (hcfg ▸ hg)
    exact hreset
  · rw [takeInput_frame s]
    exact hkept
  · rw [hframe]
    exact hkept

/-- Settles O34: the reset state and every step, as an invariant. -/
theorem soundGeometryIsNeverRejected : Obligations.SoundGeometryIsNeverRejected :=
  ⟨fun _ => neverRejected_resetWith, fun _ _ => step_keeps_neverRejected⟩

end Sys2Proof.Machine
end

section
/-! SUPPORT. The statements of 30_encoding.md sections 2 and 3: decoding and encoding are inverse to each other, and the
rows of the opcode table do not overlap. -/

namespace Sys2Proof

/-! ### The encoder writes words that decode back -/

theorem encode_post (e : Event) : encode (.post e) = .host (postWord e) := by cases e <;> rfl

theorem toNat_postWord (e : Event) : (postWord e).toNat = 0x1000 + e.num := by cases e <;> rfl

theorem toNat_readWord {idx : Nat} (h : idx < 256) :
    (0x2000#16 + BitVec.ofNat 16 idx).toNat = 0x2000 + idx := by
  rw [BitVec.toNat_add, BitVec.toNat_ofNat, BitVec.toNat_ofNat]
  omega

theorem decode_encode_post (e : Event) : decode (encode (.post e)) = .ok (.post e) := by
  rw [encode_post]
  exact decodeHost_post (toNat_postWord e)

theorem decode_encode {i : Instr} (h : i.WellFormed) : decode (encode i) = .ok i := by
  cases i with
  | latch | sample | ctrl | prot | fsm | map => rfl
  | nop => exact decodeHost_nop rfl
  | start => exact decode_encode_post .start
  | ack => exact decode_encode_post .ack
  | mode => exact decode_encode_post .mode
  | freqUp => exact decode_encode_post .freqUp
  | freqDn => exact decode_encode_post .freqDn
  | dutyUp => exact decode_encode_post .dutyUp
  | dutyDn => exact decode_encode_post .dutyDn
  | deadUp => exact decode_encode_post .deadUp
  | deadDn => exact decode_encode_post .deadDn
  | rd idx => exact decodeHost_rd h (toNat_readWord h)

/-! ### A word that decodes is the encoder's -/

/-- Every number below 9 is the bit of an event (10_state.md R41). -/
theorem Event.exists_num_eq {n : Nat} (h : n < 9) : ∃ e : Event, e.num = n := by
  interval_cases n
  exacts [⟨.start, rfl⟩, ⟨.ack, rfl⟩, ⟨.mode, rfl⟩, ⟨.freqUp, rfl⟩, ⟨.freqDn, rfl⟩, ⟨.dutyUp, rfl⟩, ⟨.dutyDn, rfl⟩,
    ⟨.deadUp, rfl⟩, ⟨.deadDn, rfl⟩]

/-- A host word that meets no condition of 30_encoding.md R108 is of one of the three classes. -/
theorem hostWord_cases {w : BitVec 16} {i : Instr} (h : decodeHost w = .ok i) :
    w.toNat = 0 ∨ (∃ e : Event, w.toNat = 0x1000 + e.num) ∨ ∃ idx < 256, w.toNat = 0x2000 + idx := by
  by_cases hres : w.toNat / 4096 ≥ 3 ∨ w.toNat / 256 % 16 ≠ 0 ∨ (w.toNat / 4096 = 0 ∧ w.toNat % 256 ≠ 0) ∨
      (w.toNat / 4096 = 1 ∧ w.toNat % 256 ≥ 9)
  · obtain ⟨r, hr⟩ := decodeFields_reserved hres
    rw [decodeHost_eq, hr] at h
    cases h
  obtain hcls | hcls | hcls : w.toNat / 4096 = 0 ∨ w.toNat / 4096 = 1 ∨ w.toNat / 4096 = 2 := by omega
  · exact .inl (by omega)
  · obtain ⟨e, he⟩ := Event.exists_num_eq (n := w.toNat % 256) (by omega)
    exact .inr (.inl ⟨e, by omega⟩)
  · exact .inr (.inr ⟨w.toNat % 256, by omega, by omega⟩)

theorem wellFormed_post (e : Event) : (Instr.post e).WellFormed := by cases e <;> trivial

theorem encode_of_decodeHost {w : BitVec 16} {i : Instr} (h : decodeHost w = .ok i) :
    i.WellFormed ∧ encode i = .host w := by
  obtain hw | ⟨e, hw⟩ | ⟨idx, hidx, hw⟩ := hostWord_cases h
  · obtain rfl := Except.ok.inj ((decodeHost_nop hw).symm.trans h)
    exact ⟨trivial, congrArg OpWord.host (BitVec.eq_of_toNat_eq hw.symm)⟩
  · obtain rfl := Except.ok.inj ((decodeHost_post hw).symm.trans h)
    rw [encode_post]
    exact ⟨wellFormed_post e, congrArg OpWord.host (BitVec.eq_of_toNat_eq ((toNat_postWord e).trans hw.symm))⟩
  · obtain rfl := Except.ok.inj ((decodeHost_rd hidx hw).symm.trans h)
    exact ⟨hidx, congrArg OpWord.host (BitVec.eq_of_toNat_eq ((toNat_readWord hidx).trans hw.symm))⟩

theorem encode_of_decodeStage {code : BitVec 3} {i : Instr} (h : decodeStage code = .ok i) :
    i.WellFormed ∧ encode i = .stage code := by
  obtain ⟨rfl, rfl⟩ | ⟨rfl, rfl⟩ | ⟨rfl, rfl⟩ | ⟨rfl, rfl⟩ | ⟨rfl, rfl⟩ | ⟨rfl, rfl⟩ := Machine.decodeStage_cases h <;>
    exact ⟨trivial, rfl⟩

theorem encode_of_decode {o : OpWord} {i : Instr} (h : decode o = .ok i) : i.WellFormed ∧ encode i = o := by
  cases o with
  | stage code => exact encode_of_decodeStage h
  | host w => exact encode_of_decodeHost h

/-- Settles O1: the encoder's words decode class by class, and a word that decodes has the number its operation is
encoded with. -/
theorem decodeAndEncodeAgree : Obligations.DecodeAndEncodeAgree :=
  ⟨fun _ => decode_encode, fun _ _ => encode_of_decode⟩

/-! ### The opcode table -/

/-- The encoder writes a word of the operation's own row. -/
theorem row_matches_encode (i : Instr) : Laws.TableRow.Statement i := by
  cases i with
  | latch => exact Laws.TableRow.latch
  | sample => exact Laws.TableRow.sample
  | ctrl => exact Laws.TableRow.ctrl
  | prot => exact Laws.TableRow.prot
  | fsm => exact Laws.TableRow.fsm
  | map => exact Laws.TableRow.map
  | nop => exact Laws.TableRow.nop
  | start => exact Laws.TableRow.start
  | ack => exact Laws.TableRow.ack
  | mode => exact Laws.TableRow.mode
  | freqUp => exact Laws.TableRow.freqUp
  | freqDn => exact Laws.TableRow.freqDn
  | dutyUp => exact Laws.TableRow.dutyUp
  | dutyDn => exact Laws.TableRow.dutyDn
  | deadUp => exact Laws.TableRow.deadUp
  | deadDn => exact Laws.TableRow.deadDn
  | rd idx => exact Laws.TableRow.rd idx

/-- Every bit of a word of a fixed row is fixed, so the row has one word. -/
theorem OpRow.fixed_matches_unique {m : String} {f : Format} {v : Nat} {o o' : OpWord}
    (h : (OpRow.fixed m f v).Matches o) (h' : (OpRow.fixed m f v).Matches o') : o = o' := by
  obtain ⟨hformat, hbits⟩ := h
  obtain ⟨hformat', hbits'⟩ := h'
  have hsame := hbits.trans hbits'.symm
  cases o with
  | stage code =>
    obtain rfl : Format.s = f := hformat
    cases o' with
    | host w => cases hformat'
    | stage code' =>
      have hall : ∀ c : BitVec 3, c.toNat &&& 0x7 = c.toNat := by decide
      exact congrArg OpWord.stage (BitVec.eq_of_toNat_eq (by simpa only [OpRow.fixed, OpWord.bits, hall] using hsame))
  | host w =>
    obtain rfl : Format.h = f := hformat
    cases o' with
    | stage code => cases hformat'
    | host w' =>
      have hall (x : BitVec 16) : x.toNat &&& 0xFFFF = x.toNat :=
        (Nat.and_two_pow_sub_one_eq_mod x.toNat 16).trans (Nat.mod_eq_of_lt x.isLt)
      exact congrArg OpWord.host (BitVec.eq_of_toNat_eq (by simpa only [OpRow.fixed, OpWord.bits, hall] using hsame))

/-- All operations but `RD` have no operand and a row whose every bit is fixed. -/
theorem row_fixed {j : Instr} (hj : ∀ idx, j ≠ .rd idx) : j.WellFormed ∧ ∃ m f v, j.row = OpRow.fixed m f v := by
  cases j with
  | rd idx => exact absurd rfl (hj idx)
  | _ => exact ⟨trivial, _, _, _, rfl⟩

/-- The words of the row of `RD` are those of class 2 with `z` = 0. -/
theorem toNat_of_rd_row {w : BitVec 16} (h : w.toNat &&& 0xFF00 = 8192) :
    w.toNat = 0x2000 + w.toNat % 256 := by
  have hhigh : w.toNat / 256 &&& 0xFF = 32 := by rw [← Nat.and_div_two_pow (n := 8) (b := 0xFF00), h]
  have hmod : w.toNat / 256 % 256 = 32 := (Nat.and_two_pow_sub_one_eq_mod _ 8).symm.trans hhigh
  have := w.isLt
  omega

/-- A word with the fixed bits of a row decodes to an operation of that row. -/
theorem decode_of_matches {j : Instr} {o : OpWord} (h : j.row.Matches o) :
    ∃ k, decode o = .ok k ∧ k.row = j.row := by
  by_cases hj : ∃ idx, j = .rd idx
  · obtain ⟨idx, rfl⟩ := hj
    cases o with
    | stage code => cases h.1
    | host w => exact ⟨_, decodeHost_rd (Nat.mod_lt _ (by decide)) (toNat_of_rd_row h.2), rfl⟩
  · obtain ⟨hwf, m, f, v, hrow⟩ := row_fixed (not_exists.mp hj)
    have hown := row_matches_encode j hwf
    rw [hrow] at h hown
    exact ⟨j, OpRow.fixed_matches_unique hown h ▸ decode_encode hwf, rfl⟩

/-- Settles O3: a word of another row would decode to an operation of that row too. -/
theorem opcodeRowsDoNotOverlap : Obligations.OpcodeRowsDoNotOverlap := by
  unfold Obligations.OpcodeRowsDoNotOverlap
  intro o i hdec
  obtain ⟨hwf, rfl⟩ := encode_of_decode hdec
  refine ⟨row_matches_encode i hwf, fun j hj => ?_⟩
  obtain ⟨k, hk, hrow⟩ := decode_of_matches hj
  obtain rfl := Except.ok.inj (hdec.symm.trans hk)
  exact hrow.symm

end Sys2Proof
end

section
/-! SUPPORT. The statements about one step: which operation it runs, where it refuses, what lands inside a tick, and in
which order arrivals are taken (20_memory.md section 4, 30_encoding.md sections 2 and 3, 93_implementation_defined.md
U3 and U16). -/

namespace Sys2Proof.Machine

/-! ### Which operation runs -/

theorem step_eq_exec_of_word {s : State} {w : BitVec 16} {i : Instr} {rest : List Arrival} (hw : s.cfg.WellFormed)
    (hstg : s.stg = 0) (hbox : s.inbox = { cmd := some w } :: rest) (hdec : decodeHost w = .ok i) :
    step s = exec i { s with inbox := rest } := by
  rw [step_of_word hw hstg hbox hdec, exec_eq_effect]

theorem step_eq_exec_of_stage {s : State} {i : Instr} (hw : s.cfg.WellFormed) (hdec : decodeStage s.stg = .ok i) :
    step s = exec i s := by
  rw [step_of_stage hw hdec, exec_eq_effect]

/-- Settles O5, by the step of a stage and the step of a host word. -/
theorem stepRunsDecodedOperation : Obligations.StepRunsDecodedOperation :=
  fun _ hw => ⟨fun _ => step_eq_exec_of_stage hw, fun _ _ _ => step_eq_exec_of_word hw⟩

/-- A placed word is the next operation: a stage code stands in `STG`, a host word is taken from the arrivals again. -/
theorem step_placeWord {s : State} {o : OpWord} {i : Instr} (hw : s.cfg.WellFormed) (hdec : decode o = .ok i) :
    ∃ t, step (placeWord o s) = exec i t ∧ t = { s with stg := t.stg, tickInit := t.tickInit } := by
  cases o with
  | stage code => exact ⟨_, step_eq_exec_of_stage (s := placeWord (.stage code) s) hw hdec, rfl⟩
  | host w => exact ⟨_, step_eq_exec_of_word (s := placeWord (.host w) s) hw rfl rfl hdec, rfl⟩

theorem decode_of_decodeTableWord {nbits w : Nat} {i : Instr} (h : decodeTableWord nbits w = some i) :
    decode (tableWord nbits w) = .ok i := by
  unfold decodeTableWord at h
  split at h
  · rename_i hdec
    rw [hdec, Option.some.inj h]
  · cases h

/-- Settles O6: the table word is placed as an operation word, and a placed word is the next operation. -/
theorem placedWordRunsNext : Obligations.PlacedWordRunsNext :=
  fun _ _ _ _ hw hdec => step_placeWord hw (decode_of_decodeTableWord hdec)

/-! ### Where a step refuses (U3, U16) -/

/-- Every stage code but the idle one and the reserved one names a stage (30_encoding.md R101). -/
theorem decodeStage_ok {code : BitVec 3} (h0 : code ≠ 0) (h7 : code ≠ 7) : ∃ i, decodeStage code = .ok i := by
  have hall : ∀ c : BitVec 3, c ≠ 0 → c ≠ 7 → c = 1 ∨ c = 2 ∨ c = 3 ∨ c = 4 ∨ c = 5 ∨ c = 6 := by decide
  obtain rfl | rfl | rfl | rfl | rfl | rfl := hall code h0 h7 <;> exact ⟨_, rfl⟩

theorem step_of_busy {s : State} (hw : s.cfg.WellFormed) (h0 : s.stg ≠ 0) (h7 : s.stg ≠ 7) : ∃ t, step s = .next t := by
  obtain ⟨i, hdec⟩ := decodeStage_ok h0 h7
  exact ⟨_, step_of_stage hw hdec⟩

theorem step_of_idle {s : State} (hw : s.cfg.WellFormed) (hstg : s.stg = 0) : ∃ t, step s = .next t := by
  rw [step, fetch_idle hw hstg]
  cases (takeInput s).1 with
  | none => exact ⟨_, rfl⟩
  | reset => exact ⟨_, rfl⟩
  | tick codes => exact ⟨_, rfl⟩
  | word w =>
    cases hdec : decodeHost w with
    | error r => exact ⟨reservedWord (takeInput s).2, by simp only [startInput, hdec]⟩
    | ok i => exact ⟨effect i (takeInput s).2, by simp only [startInput, hdec, exec_eq_effect]⟩

theorem step_of_reservedStage {s : State} (hw : s.cfg.WellFormed) (h7 : s.stg = 7) :
    step s = .refused .reservedStage := by
  have hdec : decodeStage s.stg = .error .reservedStage := by rw [h7]; rfl
  simp only [step, fetch, if_pos hw, hdec]

/-- Settles O8: the configuration is looked at first, then the stage code. -/
theorem stepsRefusedOnlyWhereTheSpecRefuses : Obligations.StepsRefusedOnlyWhereTheSpecRefuses := by
  unfold Obligations.StepsRefusedOnlyWhereTheSpecRefuses
  refine fun s => ⟨fun hw => by rw [step, fetch_invalid hw], step_of_reservedStage, fun hw h7 => ?_⟩
  by_cases h0 : s.stg = 0
  · exact step_of_idle hw h0
  · exact step_of_busy hw h0 h7

/-! ### A tick (20_memory.md R86; seven steps: log 3) -/

/-- Settles O9: a tick is the strobe and the six stages, each of which leaves the arrivals alone. -/
theorem tickRunsTheSixStagesInOrder : Obligations.TickRunsTheSixStagesInOrder := by
  unfold Obligations.TickRunsTheSixStagesInOrder
  intro s codes rest hw hstg hbox
  have hrun := stepN_tick hw hstg hbox
  unfold tickToProt at hrun
  exact ⟨_, _, _, _, _, _, _, rfl, exec_eq_effect .latch (tickEvent codes { s with inbox := rest }),
    exec_eq_effect .sample _, exec_eq_effect .ctrl _, exec_eq_effect .prot _, exec_eq_effect .fsm _,
    exec_eq_effect .map _, rfl, by simp [effect], hrun⟩

/-- Settles O10: inside a tick a step is one of the six stages, and of these only `LATCH` writes the mailbox. -/
theorem nothingLandsInsideATick : Obligations.NothingLandsInsideATick := by
  unfold Obligations.NothingLandsInsideATick
  intro s hw h0 h7
  obtain ⟨t, hstep⟩ := step_of_busy hw h0 h7
  refine ⟨t, hstep, ?_⟩
  obtain ⟨-, ⟨hstg, rfl⟩ | ⟨-, rfl⟩ | ⟨-, rfl⟩ | ⟨-, rfl⟩ | ⟨-, rfl⟩ | ⟨-, rfl⟩ | ⟨hidle, -⟩ | ⟨hidle, -⟩ | ⟨hidle, -⟩⟩ :=
    step_inversion hstep
  · exact ⟨rfl, rfl, rfl, rfl, .inr ⟨hstg, rfl, rfl⟩⟩
  · simp
  · simp
  · simp
  · simp
  · simp
  · exact absurd hidle h0
  · exact absurd hidle h0
  · exact absurd hidle h0

/-! ### Arrivals (20_memory.md R92, 60_exceptions.md R268) -/

/-- Two idle machines that take the same transaction make the same step. -/
theorem step_congr {s t : State} (hs : s.cfg.WellFormed) (hs0 : s.stg = 0) (ht : t.cfg.WellFormed) (ht0 : t.stg = 0)
    (h : takeInput s = takeInput t) : step s = step t := by
  rw [step, step, fetch_idle hs hs0, fetch_idle ht ht0, h]

/-- Settles O11: with no arrival the fetch takes nothing and goes nowhere. -/
theorem idleMachineHolds : Obligations.IdleMachineHolds := by
  unfold Obligations.IdleMachineHolds
  intro s hw hstg hbox
  have htake : takeInput s = (.none, s) := by simp only [takeInput, hbox]
  rw [step, fetch_idle hw hstg, htake]
  rfl

/-- The free value decides which of two joint arrivals is taken as if it came first (log 4). -/
theorem takeInput_joint (s : State) (codes : AdcCodes) (w : BitVec 16) (rest : List Arrival) :
    takeInput { s with inbox := { tick := some codes, cmd := some w } :: rest } =
      if Config.tickFirst s.choices then
        takeInput { s with inbox := { tick := some codes } :: { cmd := some w } :: rest, choices := s.choices + 1 }
      else
        takeInput { s with inbox := { cmd := some w } :: { tick := some codes } :: rest, choices := s.choices + 1 } := by
  simp [takeInput]

/-- Settles O12, by the transaction the fetch takes: the two orders of a joint arrival, and the strobe that overrides. -/
theorem simultaneousArrivalsRunInSomeOrder : Obligations.SimultaneousArrivalsRunInSomeOrder := by
  unfold Obligations.SimultaneousArrivalsRunInSomeOrder
  intro s codes w rest hw hstg
  have hjoint := takeInput_joint s codes w rest
  refine ⟨?_, step_congr hw hstg hw hstg rfl⟩
  by_cases hfirst : Config.tickFirst s.choices = true
  · rw [if_pos hfirst] at hjoint
    exact .inl (step_congr hw hstg hw hstg hjoint)
  · rw [if_neg hfirst] at hjoint
    exact .inr (step_congr hw hstg hw hstg hjoint)

/-! ### What a host arrival writes (20_memory.md R90) -/

/-- An arrival on which nothing strobes is taken and does nothing (log 2). -/
theorem step_of_blank {s : State} {rest : List Arrival} (hw : s.cfg.WellFormed) (hstg : s.stg = 0)
    (hbox : s.inbox = {} :: rest) : step s = .next { s with inbox := rest } := by
  have htake : takeInput s = (.none, { s with inbox := rest }) := by simp [takeInput, hbox]
  rw [step, fetch_idle hw hstg, htake]
  rfl

/-- A host word clears no bit of the mailbox. -/
theorem pend_effect_host {w : BitVec 16} {i : Instr} (h : decodeHost w = .ok i) (s : State) {j : Nat}
    (hj : s.pend.getLsbD j = true) : (effect i s).pend.getLsbD j = true := by
  obtain rfl | ⟨e, rfl⟩ | ⟨idx, rfl⟩ := decodeHost_cases h
  · exact hj
  · rw [effect_post, getLsbD_postEvent_pend, hj, Bool.true_or]
  · rw [effect, readIndex_pend, hj]

/-- Settles O22: the arrival is blank, a word that decodes, or a reserved word. -/
theorem hostWritesOnlyTheMailbox : Obligations.HostWritesOnlyTheMailbox := by
  unfold Obligations.HostWritesOnlyTheMailbox
  rintro s t ⟨rst, tick, cmd⟩ rest hstg hbox rfl rfl hstep
  obtain ⟨hw, -⟩ := step_cases hstep
  cases cmd with
  | none =>
    obtain rfl := next_inj ((step_of_blank hw hstg hbox).symm.trans hstep)
    exact ⟨rfl, fun _ => id⟩
  | some w =>
    cases hdec : decodeHost w with
    | error r =>
      obtain rfl := next_inj ((step_of_reservedWord hw hstg hbox hdec).symm.trans hstep)
      exact ⟨rfl, fun _ => id⟩
    | ok i =>
      obtain rfl := next_inj ((step_of_word hw hstg hbox hdec).symm.trans hstep)
      exact ⟨(effect_host hdec { s with inbox := rest }).1, fun _ => pend_effect_host hdec { s with inbox := rest }⟩

end Sys2Proof.Machine
end

section
/-! SUPPORT. The statements about the tick that starts in `Init` (44_state_machine.md R203, 70_reset_and_hazards.md R291):
four of its stages only move `STG`, and `FSM` performs the load. -/

namespace Sys2Proof.Machine

/-! ### The four gated stages (R136, R157, R178, R194) -/

theorem sampleStage_of_tickInit {s : State} (h : s.tickInit = true) : sampleStage s = { s with stg := 3 } := by
  rw [sampleStage, if_pos h]

theorem ctrlStage_of_tickInit {s : State} (h : s.tickInit = true) : ctrlStage s = { s with stg := 4 } := by
  rw [ctrlStage, if_pos h]

theorem protStage_of_tickInit {s : State} (h : s.tickInit = true) : protStage s = { s with stg := 5 } := by
  rw [protStage, if_pos h]

theorem mapStage_of_tickInit {s : State} (h : s.tickInit = true) :
    mapStage s = { s with stg := 0, tickInit := false } := by
  rw [mapStage, if_pos h]

/-- Settles O15: each of the four stages looks at the record of the start of the tick. -/
theorem stagesOfTheInitTickHaveNoEffect : Obligations.StagesOfTheInitTickHaveNoEffect := by
  unfold Obligations.StagesOfTheInitTickHaveNoEffect
  intro s h
  simp only [exec_eq_effect, effect, sampleStage_of_tickInit h, ctrlStage_of_tickInit h, protStage_of_tickInit h,
    mapStage_of_tickInit h, and_self]

/-! ### `Init` is entered by `RESET` only (R203, R221) -/

theorem fsmSteps_ne_init {s : State} (h : s.state ≠ .init) : (fsmSteps s).state ≠ .init := by
  by_cases hramp : s.state = .rise ∧ latchedFault s = 0
  · obtain ⟨hrise, hf⟩ := hramp
    obtain ⟨-, hstay, -⟩ := fsmSteps_state_of_toggles hf
    obtain hs | hs := hstay hrise <;> simp [hs]
  · rw [fsmSteps_state hramp]
    exact transition_ne_init h

theorem step_to_init {s t : State} (hstep : step s = .next t) (hs : s.state ≠ .init) (ht : t.state = .init) :
    s.stg = 0 ∧ (takeInput s).1 = .reset := by
  obtain ⟨-, hexec⟩ | ⟨hstg, hrst, -⟩ | ⟨hstate, -⟩ := step_state_outEn_cases hstep
  · rw [exec_fsm_of_ne hs] at hexec
    rw [← next_inj hexec] at ht
    exact absurd ht (fsmSteps_ne_init hs)
  · exact ⟨hstg, hrst⟩
  · exact absurd (hstate.symm.trans ht) hs

/-! ### The whole tick (log 3) -/

/-- Up to `PROT` the tick that starts in `Init` is its `LATCH`. -/
theorem tickToProt_of_init {s : State} (codes : AdcCodes) (h : s.state = .init) :
    tickToProt codes s = { latchStage (tickEvent codes s) with stg := 5 } := by
  have hrec : (latchStage (tickEvent codes s)).tickInit = true := decide_eq_true h
  unfold tickToProt
  generalize latchStage (tickEvent codes s) = x at hrec
  simp only [sampleStage_of_tickInit, ctrlStage_of_tickInit, protStage_of_tickInit, hrec]

/-- The tick that starts in `Init` captures the codes, loads the defaults and goes to `Wait`. -/
theorem tick_of_init {s : State} (codes : AdcCodes) (h : s.state = .init) :
    mapStage (fsmStage (tickToProt codes s)) =
      { fsmInit (latchStage (tickEvent codes s)) with stg := 0, tickInit := false } := by
  have hstate : ({ latchStage (tickEvent codes s) with stg := 5 } : State).state = .init := h
  have hrec : ({ fsmInit { latchStage (tickEvent codes s) with stg := 5 } with stg := 6 } : State).tickInit = true :=
    decide_eq_true h
  rw [tickToProt_of_init codes h, fsmStage_of_init hstate, mapStage_of_tickInit hrec]
  rfl

/-- Settles O14: only `FSM` and `RESET` write `STATE`, and the seven steps are `LATCH` and `InitLoad`. -/
theorem initTickLoadsAndWaits : Obligations.InitTickLoadsAndWaits := by
  unfold Obligations.InitTickLoadsAndWaits
  refine ⟨fun s t => step_to_init, fun s codes rest hw hstg hinit hbox => ?_⟩
  rw [stepN_tick hw hstg hbox, tick_of_init (s := { s with inbox := rest }) codes hinit]
  congr 1
  apply State.ext <;> simp [hstg, seedChannel, captureCode, Config.iZero]

end Sys2Proof.Machine
end

section
/-! SUPPORT. The statements that say what an operation leaves alone: the outputs (10_state.md R31), what `FSM` may write
(44_state_machine.md R201), and the column "written by" of the register map (10_state.md R48). -/

namespace Sys2Proof.Machine

/-! ### The outputs (R31) -/

/-- `MAP` keeps the outputs, or it accepts a tuple outside `Init` (42_pwm_mapper.md R176 to R178). -/
theorem mapStage_out_cases (s : State) :
    (mapStage s).out = s.out ∨
    (s.tickInit = false ∧ (mapStage s).mapErr = false ∧ ¬ mapRejects (mapInput s) = true) := by
  cases hrec : s.tickInit with
  | true => exact .inl (by rw [mapStage_of_tickInit hrec])
  | false =>
    by_cases hrej : mapRejects (mapInput s) = true
    · have heq : mapStage s = _ := next_inj ((exec_eq_effect .map s).symm.trans (exec_map_of_rejects hrec hrej))
      exact .inl (by rw [heq])
    · have heq : mapStage s = _ := next_inj ((exec_eq_effect .map s).symm.trans (exec_map_of_accepts hrec hrej))
      exact .inr ⟨rfl, congrArg State.mapErr heq, hrej⟩

/-- Settles O33: no other stage and no other input writes the outputs. -/
theorem onlyAcceptedMapsChangeTheOutputs : Obligations.OnlyAcceptedMapsChangeTheOutputs := by
  unfold Obligations.OnlyAcceptedMapsChangeTheOutputs
  intro s t hstep hne
  obtain ⟨-, ⟨-, rfl⟩ | ⟨-, rfl⟩ | ⟨-, rfl⟩ | ⟨-, rfl⟩ | ⟨-, rfl⟩ | ⟨hstg, rfl⟩ | ⟨hstg, hrst, rfl⟩ |
    ⟨-, codes, -, rfl⟩ | ⟨-, hframe, -⟩⟩ := step_inversion hstep
  · exact absurd (latchStage_out s) hne
  · exact absurd (sampleStage_out s) hne
  · exact absurd (ctrlStage_out s) hne
  · exact absurd (protStage_out s) hne
  · exact absurd (fsmStage_out s) hne
  · obtain ⟨hrec, herr, hacc⟩ := (mapStage_out_cases s).resolve_left hne
    simp only [mapRejects_iff, not_or, mapInput, not_le, ge_iff_le] at hacc
    obtain ⟨-, -, hdead, -, hduty, -⟩ := hacc
    exact .inl ⟨hstg, hrec, herr, hduty, hdead⟩
  · exact .inr ⟨hrst, hstg, rfl⟩
  · exact absurd (by rw [takeInput_frame s]; rfl) hne
  · exact absurd (by rw [hframe]) hne

/-! ### `FSM` (R201) -/

/-- A transition starts the soft start, or it keeps the ramp and its count (R204, 10_state.md R43). -/
theorem transition_ramp_cases (s : State) :
    (s.state = .wait ∧ s.evt.getLsbD 0 = true ∧ latchedFault s = 0) ∨
    ((transition (latchFault s)).ramp = s.ramp ∧ (transition (latchFault s)).riseCnt = s.riseCnt) := by
  rcases transition_cases (latchFault s) with ⟨-, heq⟩ | ⟨htrip, hs, he, -⟩ | ⟨-, -, -, heq⟩ | ⟨-, -, -, heq⟩
  · exact .inr (by rw [heq]; exact ⟨rfl, rfl⟩)
  · exact .inl ⟨hs, he, latchedFault_of_not_trips htrip (.inl hs)⟩
  · exact .inr (by rw [heq]; exact ⟨rfl, rfl⟩)
  · exact .inr (by rw [heq]; exact ⟨rfl, rfl⟩)

/-- With no start and no ramp step the ramp and its count stay. -/
theorem fsmSteps_ramp_eq {s : State} (hramp : ¬ (s.state = .rise ∧ latchedFault s = 0))
    (hstart : ¬ (s.state = .wait ∧ s.evt.getLsbD 0 = true ∧ latchedFault s = 0)) :
    (fsmSteps s).ramp = s.ramp ∧ (fsmSteps s).riseCnt = s.riseCnt := by
  rw [fsmSteps_of_not_ramping hramp]
  simpa using (transition_ramp_cases s).resolve_left hstart

/-- Only a trip and a toggle write the control state (R208, R209). -/
theorem fsmSteps_ctl_eq {s : State} (ht : ¬ Toggles s) (h : latchedFault s = 0 ∨ s.state = .err) :
    (fsmSteps s).ctl = s.ctl := by
  rw [fsmSteps_ctl, afterToggle_of_not_toggles ht]
  rcases h with hf | hs
  · exact (transition_history s).2.2.2 hf
  · cases he : s.evt.getLsbD 1 with
    | true => rw [transition_of_ack hs he]; rfl
    | false => rw [transition_of_no_ack hs he]; rfl

/-- Settles O41: what `FSM` may write, less the ramp where it neither starts nor goes on, and the control state where
nothing toggles or trips. -/
theorem fsmFrame : Obligations.FsmFrame := by
  unfold Obligations.FsmFrame
  intro s hinit
  refine ⟨_, exec_fsm_of_ne hinit, congrArg (fun x : State => { x with stg := 6 }) (fsmSteps_frame s), fun h => ?_,
    fun he h => fsmSteps_ctl_eq (fun ⟨he', _⟩ => by rw [he] at he'; cases he') h⟩
  refine fsmSteps_ramp_eq ?_ ?_
  · rintro ⟨hs, hf⟩
    simp [hs, hf] at h
  · rintro ⟨hs, he, hf⟩
    simp only [hs, he, hf] at h
    simp at h

/-! ### The register map (R48) -/

theorem sampleStage_raw (s : State) :
    (sampleStage s).vin.raw = s.vin.raw ∧ (sampleStage s).iin.raw = s.iin.raw ∧
    (sampleStage s).vout.raw = s.vout.raw ∧ (sampleStage s).iout.raw = s.iout.raw := by
  unfold sampleStage
  split <;> exact ⟨rfl, rfl, rfl, rfl⟩

theorem fsmStage_raw (s : State) :
    (fsmStage s).vin.raw = s.vin.raw ∧ (fsmStage s).iin.raw = s.iin.raw ∧
    (fsmStage s).vout.raw = s.vout.raw ∧ (fsmStage s).iout.raw = s.iout.raw := by
  by_cases h : s.state = .init
  · rw [fsmStage_of_init h]
    exact ⟨rfl, rfl, rfl, rfl⟩
  · rw [fsmStage_of_ne h]
    simp

/-- No operation writes the configuration, the `VADJ` registers, the inputs or the ADC pins (R26, R47). -/
theorem effect_keeps_inputs (i : Instr) (s : State) :
    (effect i s).cfg = s.cfg ∧ (effect i s).vadj = s.vadj ∧ (effect i s).vadjAvg = s.vadjAvg ∧
    (effect i s).inbox = s.inbox ∧ (effect i s).adc = s.adc ∧ (effect i s).choices = s.choices := by
  cases i <;> simp [effect]

theorem effect_keeps_readPort {i : Instr} (h : ∀ idx, i ≠ .rd idx) (s : State) :
    (effect i s).rdata = s.rdata ∧ (effect i s).cmdErr = s.cmdErr := by
  cases i with
  | rd idx => exact absurd rfl (h idx)
  | _ => simp [effect]

theorem effect_keeps_snapshot {i : Instr} (h : i ≠ .latch) (s : State) :
    (effect i s).evt = s.evt ∧ (effect i s).vin.raw = s.vin.raw ∧ (effect i s).iin.raw = s.iin.raw ∧
    (effect i s).vout.raw = s.vout.raw ∧ (effect i s).iout.raw = s.iout.raw := by
  cases i with
  | latch => exact absurd rfl h
  | sample => exact ⟨sampleStage_evt s, sampleStage_raw s⟩
  | fsm => exact ⟨fsmStage_evt s, fsmStage_raw s⟩
  | _ => simp [effect]

theorem effect_keeps_pend {i : Instr} (h : i ≠ .latch) (hpost : ∀ e, i ≠ .post e) (s : State) :
    (effect i s).pend = s.pend := by
  cases i with
  | latch => exact absurd rfl h
  | start => exact absurd rfl (hpost .start)
  | ack => exact absurd rfl (hpost .ack)
  | mode => exact absurd rfl (hpost .mode)
  | freqUp => exact absurd rfl (hpost .freqUp)
  | freqDn => exact absurd rfl (hpost .freqDn)
  | dutyUp => exact absurd rfl (hpost .dutyUp)
  | dutyDn => exact absurd rfl (hpost .dutyDn)
  | deadUp => exact absurd rfl (hpost .deadUp)
  | deadDn => exact absurd rfl (hpost .deadDn)
  | _ => simp [effect]

/-- Only `SAMPLE` and the load write a channel beside its raw code. -/
theorem effect_keeps_samples {i : Instr} (hsample : i ≠ .sample) (hfsm : i ≠ .fsm) (s : State) :
    (effect i s).vin = { s.vin with raw := (effect i s).vin.raw } ∧
    (effect i s).iin = { s.iin with raw := (effect i s).iin.raw } ∧
    (effect i s).vout = { s.vout with raw := (effect i s).vout.raw } ∧
    (effect i s).iout = { s.iout with raw := (effect i s).iout.raw } := by
  cases i with
  | sample => exact absurd rfl hsample
  | fsm => exact absurd rfl hfsm
  | _ => simp [effect, captureCode]

theorem effect_keeps_control {i : Instr} (hctrl : i ≠ .ctrl) (hfsm : i ≠ .fsm) (s : State) :
    (effect i s).ctl = s.ctl ∧ (effect i s).uSat = s.uSat := by
  cases i with
  | ctrl => exact absurd rfl hctrl
  | fsm => exact absurd rfl hfsm
  | _ => simp [effect]

theorem effect_keeps_flagsNow {i : Instr} (hprot : i ≠ .prot) (hfsm : i ≠ .fsm) (s : State) :
    (effect i s).flagsNow = s.flagsNow := by
  cases i with
  | prot => exact absurd rfl hprot
  | fsm => exact absurd rfl hfsm
  | _ => simp [effect]

theorem effect_keeps_outputs {i : Instr} (h : i ≠ .map) (s : State) :
    (effect i s).out = s.out ∧ (effect i s).mapErr = s.mapErr := by
  cases i with
  | map => exact absurd rfl h
  | _ => simp [effect]

theorem effect_keeps_fsm_registers {i : Instr} (h : i ≠ .fsm) (s : State) :
    (effect i s).state = s.state ∧ (effect i s).mode = s.mode ∧ (effect i s).outEn = s.outEn ∧
    (effect i s).fault = s.fault ∧ (effect i s).params = s.params ∧ (effect i s).geo = s.geo ∧
    (effect i s).ramp = s.ramp ∧ (effect i s).riseCnt = s.riseCnt ∧ (effect i s).dutyAct = s.dutyAct := by
  cases i with
  | fsm => exact absurd rfl h
  | _ => simp [effect]

/-- Settles O43, by one lemma for each group of registers with the same writers. -/
theorem operationsWriteOnlyTheirRegisters : Obligations.OperationsWriteOnlyTheirRegisters := by
  unfold Obligations.OperationsWriteOnlyTheirRegisters
  intro i s
  obtain ⟨hcfg, hvadj, hvadjAvg, hbox, hadc, hchoices⟩ := effect_keeps_inputs i s
  exact ⟨effect i s, exec_eq_effect i s, hcfg, hvadj, hvadjAvg, hbox, hadc, hchoices, (effect_keeps_readPort · s),
    (effect_keeps_snapshot · s), (effect_keeps_pend · · s), (effect_keeps_samples · · s), (effect_keeps_control · · s),
    (effect_keeps_flagsNow · · s), (effect_keeps_outputs · s), (effect_keeps_fsm_registers · s)⟩

end Sys2Proof.Machine
end

section
/-! SUPPORT. The statements about the registers between and along steps: the reset state meets the invariants (10_state.md
R50), the ports show the registers (20_memory.md R81), and latched bits stay until their clearing event (10_state.md R35,
R39, R40). -/

namespace Sys2Proof.Machine

/-- Settles O45, by the invariants of the reset state. -/
theorem resetMeetsTheInvariants : Obligations.ResetMeetsTheInvariants := fun _ => inv_resetWith

/-! ### The ports (30_encoding.md R113) -/

theorem ofBool_eq_one_iff (b : Bool) : BitVec.ofBool b = 1 ↔ b = true := by cases b <;> decide

theorem modeCode_eq_one_iff (m : OpMode) : modeCode m = 1 ↔ m = .closeLoop := by cases m <;> decide

/-- Settles O52: between transactions each port is its register, and the state port is the state field of `STATUS`. -/
theorem portsShowTheRegisters : Obligations.PortsShowTheRegisters := by
  unfold Obligations.PortsShowTheRegisters
  intro s
  obtain ⟨hstate, -⟩ := statusWord_fields s
  exact ⟨ports_of_busy, fun hstg => ⟨_, if_pos hstg, rfl, rfl, ofBool_eq_one_iff s.outEn, rfl, rfl, hstate.symm,
    modeCode_eq_one_iff s.mode, rfl⟩⟩

/-! ### `FAULT` (R35) -/

/-- A transition clears a fault bit only as the return from `Err` (R202, R207). -/
theorem transition_keeps_fault {s : State} (h : ¬ (s.state = .err ∧ s.evt.getLsbD 1 = true)) {j : Nat}
    (hj : s.fault.getLsbD j = true) : (transition (latchFault s)).fault.getLsbD j = true := by
  have hlatched : (latchedFault s).getLsbD j = true := by rw [latchedFault, BitVec.getLsbD_or, hj, Bool.true_or]
  rcases transition_cases (latchFault s) with ⟨-, heq⟩ | ⟨-, -, -, heq⟩ | ⟨-, hs, he, -⟩ | ⟨-, -, -, heq⟩
  · rw [heq]; exact hlatched
  · rw [heq]; exact hlatched
  · exact absurd ⟨hs, he⟩ h
  · rw [heq]; exact hlatched

theorem fsmStage_keeps_fault {s : State} (hack : ¬ (s.state = .err ∧ s.evt.getLsbD 1 = true))
    (hinit : s.state ≠ .init) {j : Nat} (hj : s.fault.getLsbD j = true) : (fsmStage s).fault.getLsbD j = true := by
  rw [fsmStage_of_ne hinit]
  exact (congrArg (·.getLsbD j) (fsmSteps_fault s)).trans (transition_keeps_fault hack hj)

/-! ### `U_SAT` (R40) -/

/-- `CTRL` raises the flag or keeps it (41_control_law.md R152). -/
theorem ctrlStage_keeps_uSat {s : State} (h : s.uSat = true) : (ctrlStage s).uSat = true := by
  unfold ctrlStage
  split
  · exact h
  · simp [h]

/-- `FSM` outside `Init` clears the flag only in a toggle from `OpenLoop` into `CloseLoop` (R209). -/
theorem fsmSteps_keeps_uSat {s : State} (h : s.uSat = true)
    (ht : ¬ (s.evt.getLsbD 2 = true ∧ (fsmSteps s).mode = .closeLoop ∧ s.mode = .openLoop)) :
    (fsmSteps s).uSat = true := by
  rw [fsmSteps_mode_afterToggle] at ht
  rw [fsmSteps_uSat]
  by_cases htog : Toggles s
  · rw [afterToggle_of_toggles htog] at ht ⊢
    cases hm : s.mode with
    | openLoop => exact absurd ⟨htog.1, by simp [hm, otherMode], hm⟩ ht
    | closeLoop =>
      obtain ⟨-, hkeep⟩ := toggleMode_to_openLoop (s := transition (latchFault s)) (by simp [hm, otherMode])
      simp [hkeep, h]
  · rw [afterToggle_of_not_toggles htog]
    simpa using h

/-! ### Which steps clear a latched bit -/

/-- A step is an `FSM`, a `RESET`, or one that clears no latched bit. -/
theorem step_keeps_latched_bits {s t : State} (hstep : step s = .next t) :
    (s.stg = 5 ∧ t = fsmStage s) ∨ (s.stg = 0 ∧ (takeInput s).1 = .reset) ∨
    (t.fault = s.fault ∧ (s.cmdErr = true → t.cmdErr = true) ∧ (s.uSat = true → t.uSat = true)) := by
  obtain ⟨-, ⟨-, rfl⟩ | ⟨-, rfl⟩ | ⟨-, rfl⟩ | ⟨-, rfl⟩ | ⟨hstg, rfl⟩ | ⟨-, rfl⟩ | ⟨hstg, hrst, rfl⟩ |
    ⟨-, codes, -, rfl⟩ | ⟨-, hframe, hcmd⟩⟩ := step_inversion hstep
  · exact .inr (.inr ⟨rfl, id, id⟩)
  · exact .inr (.inr (by simp))
  · exact .inr (.inr ⟨ctrlStage_fault s, fun h => (ctrlStage_cmdErr s).trans h, ctrlStage_keeps_uSat⟩)
  · exact .inr (.inr (by simp))
  · exact .inl ⟨hstg, rfl⟩
  · exact .inr (.inr (by simp))
  · exact .inr (.inl ⟨hstg, hrst⟩)
  · rw [takeInput_frame s]
    exact .inr (.inr ⟨rfl, id, id⟩)
  · have hfault : t.fault = s.fault := by rw [hframe]
    have husat : t.uSat = s.uSat := by rw [hframe]
    exact .inr (.inr ⟨hfault, hcmd, husat.trans⟩)

/-- Settles O50: the step is a `RESET`, an `FSM` with one of the clearing events, or it keeps the bit. -/
theorem latchedBitsStayUntilCleared : Obligations.LatchedBitsStayUntilCleared := by
  unfold Obligations.LatchedBitsStayUntilCleared
  intro s t hstep
  have hne {b : Bool} (h : b = true) (h' : b = false) : False := by rw [h] at h'; cases h'
  obtain ⟨hstg, rfl⟩ | hreset | ⟨hfault, hcmd, husat⟩ := step_keeps_latched_bits hstep
  case inr.inl => exact ⟨fun _ _ _ => .inr hreset, fun _ _ => hreset, fun _ _ => .inr hreset⟩
  case inr.inr =>
    exact ⟨fun j h h' => (hne (hfault ▸ h) h').elim, fun h h' => (hne (hcmd h) h').elim,
      fun h h' => (hne (husat h) h').elim⟩
  case inl =>
    refine ⟨fun j h h' => .inl ⟨hstg, ?fault⟩, fun h h' => (hne ((fsmStage_cmdErr s).trans h) h').elim,
      fun h h' => .inl ⟨hstg, ?uSat⟩⟩
    case fault =>
      by_contra hno
      obtain ⟨hack, hinit⟩ := not_or.mp hno
      exact hne (fsmStage_keeps_fault hack hinit h) h'
    case uSat =>
      by_contra hno
      obtain ⟨hinit, ht⟩ := not_or.mp hno
      rw [fsmStage_of_ne hinit] at ht h'
      exact hne (fsmSteps_keeps_uSat h ht) h'

end Sys2Proof.Machine
end

section
/-! SUPPORT. The statement of 93_implementation_defined.md U33: the registers of the input current influence no other
register in a tick. Every stage gives the same with another channel `IIN`, but for that channel. -/

namespace Sys2Proof.Machine

/-- The same state with another channel `IIN`. -/
def withIin (ch : Channel) (s : State) : State := { s with iin := ch }

/-! ### The steps of `FSM` do not look at the channel -/

theorem transition_withIin (ch : Channel) (s : State) : transition (withIin ch s) = withIin ch (transition s) := by
  have htrip : trips (withIin ch s) = trips s := rfl
  have hstate : (withIin ch s).state = s.state := rfl
  have hevent (e : Event) : hasEvent (withIin ch s) e = hasEvent s e := rfl
  simp only [transition, htrip, hstate, hevent]
  split
  · rfl
  · split
    · split <;> rfl
    · split <;> rfl
    · rfl
    · rfl
    · rfl

theorem toggleMode_withIin (ch : Channel) (s : State) : toggleMode (withIin ch s) = withIin ch (toggleMode s) := by
  unfold toggleMode withIin
  split <;> rfl

theorem afterToggle_withIin (ch : Channel) (s : State) : afterToggle (withIin ch s) = withIin ch (afterToggle s) := by
  have htrans : transition (latchFault (withIin ch s)) = withIin ch (transition (latchFault s)) :=
    transition_withIin ch (latchFault s)
  by_cases ht : Toggles s
  · rw [afterToggle_of_toggles ht, afterToggle_of_toggles (s := withIin ch s) ht, htrans, toggleMode_withIin]
  · rw [afterToggle_of_not_toggles ht, afterToggle_of_not_toggles (s := withIin ch s) ht, htrans]

theorem onEvent_withIin {f : State → State} {ch : Channel} (hf : ∀ s, f (withIin ch s) = withIin ch (f s)) (e : Event)
    (s : State) : onEvent e f (withIin ch s) = withIin ch (onEvent e f s) := by
  have hevent : hasEvent (withIin ch s) e = hasEvent s e := rfl
  unfold onEvent
  rw [hevent]
  split
  · exact hf s
  · rfl

theorem applySteps_withIin (ch : Channel) (s : State) : applySteps (withIin ch s) = withIin ch (applySteps s) := by
  have hcfg : (withIin ch s).cfg = s.cfg := rfl
  simp only [applySteps, hcfg]
  rw [onEvent_withIin (f := stepPeriod _) (fun _ => rfl), onEvent_withIin (f := stepPeriod _) (fun _ => rfl),
    onEvent_withIin (f := stepDuty _) (fun _ => rfl), onEvent_withIin (f := stepDuty _) (fun _ => rfl),
    onEvent_withIin (f := stepDead _) (fun _ => rfl), onEvent_withIin (f := stepDead _) (fun _ => rfl)]

theorem stepEvents_withIin (ch : Channel) (s : State) : stepEvents (withIin ch s) = withIin ch (stepEvents s) := by
  have hmode : (withIin ch s).mode = s.mode := rfl
  unfold stepEvents
  rw [hmode]
  split
  · exact applySteps_withIin ch s
  · rfl

theorem selectDuty_rampIf_withIin (entry : ConvState) (trip : Bool) (ch : Channel) (s : State) :
    selectDuty (rampIf entry trip (withIin ch s)) = withIin ch (selectDuty (rampIf entry trip s)) := by
  unfold rampIf
  split <;> rfl

theorem fsmSteps_withIin (ch : Channel) (s : State) : fsmSteps (withIin ch s) = withIin ch (fsmSteps s) := by
  rw [fsmSteps_eq, afterToggle_withIin, stepEvents_withIin, selectDuty_rampIf_withIin]
  rfl

/-! ### The stages -/

/-- Another channel `IIN` before the operation changes that channel at most after it. -/
def IgnoresIin (f : State → State) : Prop := ∀ (ch : Channel) (s : State), f s = withIin (f s).iin (f (withIin ch s))

theorem latchStage_ignoresIin : IgnoresIin latchStage := fun _ _ => rfl

theorem sampleStage_ignoresIin : IgnoresIin sampleStage := fun ch s => by
  unfold sampleStage withIin
  split <;> rfl

theorem ctrlStage_ignoresIin : IgnoresIin ctrlStage := fun ch s => by
  unfold ctrlStage withIin
  split <;> rfl

theorem protStage_ignoresIin : IgnoresIin protStage := fun ch s => by
  unfold protStage withIin
  split <;> rfl

theorem fsmStage_ignoresIin : IgnoresIin fsmStage := fun ch s => by
  by_cases h : s.state = .init
  · rw [fsmStage_of_init h, fsmStage_of_init (s := withIin ch s) h]
    rfl
  · rw [fsmStage_of_ne h, fsmStage_of_ne (s := withIin ch s) h, fsmSteps_withIin]
    rfl

theorem applyMap_withIin (ch : Channel) (s : State) : applyMap (withIin ch s) = withIin ch (applyMap s) := by
  have hinput : mapInput (withIin ch s) = mapInput s := rfl
  unfold applyMap
  rw [hinput]
  split <;> rfl

theorem mapStage_ignoresIin : IgnoresIin mapStage := fun ch s => by
  have hrec : (withIin ch s).tickInit = s.tickInit := rfl
  unfold mapStage
  rw [hrec, applyMap_withIin]
  split <;> rfl

/-- Settles O51: both machines run the same stage, and each of the six looks at no register of that channel. -/
theorem inputCurrentInfluencesNothingElse : Obligations.InputCurrentInfluencesNothingElse := by
  unfold Obligations.InputCurrentInfluencesNothingElse
  intro s t t' ch hbusy hstep hstep'
  obtain ⟨hw, ⟨i, hdec, rfl⟩ | ⟨hidle, -⟩⟩ := step_cases hstep
  case inr => exact absurd hidle hbusy
  obtain rfl := next_inj ((step_of_stage (s := withIin ch s) hw hdec).symm.trans hstep')
  obtain ⟨-, rfl⟩ | ⟨-, rfl⟩ | ⟨-, rfl⟩ | ⟨-, rfl⟩ | ⟨-, rfl⟩ | ⟨-, rfl⟩ := decodeStage_cases hdec
  · exact latchStage_ignoresIin ch s
  · exact sampleStage_ignoresIin ch s
  · exact ctrlStage_ignoresIin ch s
  · exact protStage_ignoresIin ch s
  · exact fsmStage_ignoresIin ch s
  · exact mapStage_ignoresIin ch s

end Sys2Proof.Machine
end
